-- ==== Sys2Proof/Word.lean ====
section
/-! DEFINITION. The words of the Zepdor 3120: a register word (00_scope, Conventions), an octet of the line,
and the numbers that name its slots, stations, event records and match entries. -/

namespace Sys2Proof

/-- A 16-bit register or table-space word (00_scope, Conventions). -/
abbrev Word := BitVec 16

/-- An octet on the line (00_scope, Conventions). -/
abbrev Octet := BitVec 8

/-- A slot number, which is also its tag on the line (R23, 02_transaction_slots). -/
abbrev SlotNo := Fin 32

/-- A line address 0–31. Stations have 1–31; 0 names no station (04_stations_and_polling, 4.1). -/
abbrev Address := Fin 32

/-- An event record's number (07_the_event_pool_and_event_queues, 7.1). -/
abbrev RecordNo := Fin 24

/-- A match entry's index (06_event_classification, 6.1). -/
abbrev EntryNo := Fin 8

end Sys2Proof
end

