-- ==== Sys2Proof/Syntax.lean ====
section
/-! DEFINITION. The commands of the 3120: one constructor for each row of spec/opcode_table.json, in the table's
order. A command is a register access, an event on the line or at a pin, the expiry of a timer, or the moment at
which one of the 3120's own blocks acts (95_what_each_step_holds). -/

namespace Sys2Proof

/-- One octet as the receiver finds it on RXD (R2, R3): the idle bit-times between the stop bit of the octet
before it and its start bit, its data bits as sampled, and whether its stop bit was sampled marking. -/
structure RxOctet where
  gap      : Nat
  data     : Octet
  stopMark : Bool
  deriving DecidableEq, Repr

/-- The commands. The eleven command rows are the write of their code to COMMAND (11.3): their operands stand in
COMMAND ARG when they are taken (R165; log 4). The four rows of CONTROL carry the whole word written (log 5). -/
inductive Instr where
  | allocate
  | post
  | release
  | retire
  | cancel
  | stationEnable
  | stationDisable
  | revive
  | unquarantine
  | eventFree
  | initialise
  | unknownCommandCode (code : Word)
  | runWrite1 (word : Word)
  | runWrite0 (word : Word)
  | interruptEnableWrite (word : Word)
  | chipReset (word : Word)
  | causeWrite (word : Word)
  | refusedFlagClear (word : Word)
  | stationChangesWrite (high : Bool) (word : Word)
  | coalesceWrite (word : Word)
  | registerWrite (select : BitVec 5) (word : Word)
  | windowDataRead
  | windowDataWrite (word : Word)
  | pinReset
  | resetRelease
  | powerOn
  | sweepEnd
  | lineClockStep
  | deadlineExpiry
  | holdExpiry
  | coalescingTimerExpiry
  | settleEnd
  | contention
  | lfault (asserted : Bool)
  | turnaroundGapEnd
  | lineSchedulerChoice
  | frameCompletelySent
  | echoFault (bit : Nat)
  | answerWindowClose
  | answer (run : List RxOctet)
  | ignoredRun (run : List RxOctet)
  | outcomeTaken
  | answerBegins (bitTime : Nat)
  deriving DecidableEq, Repr

end Sys2Proof
end

