-- ==== Sys2Proof/Config.lean ====
section
/-! DEFINITION. What is fixed for every 3120: the protocol's limits and the part's identity. The spec leaves no
value open for an implementation to choose, so this file holds no free value. -/

namespace Sys2Proof.Config

/-- IDENT reads 3120h (R174; 11.1). -/
def ident : Word := 0x3120

/-- The sync octet that begins every frame (R5). -/
def sync : Octet := 0xA5

/-- The longest idle time, in bit-times, between two octets of one run (R3). -/
def maxGap : Nat := 20

/-- The extent of the longest frame, at which the receiver stops taking octets of a malformed one (R3). -/
def maxFrameOctets : Nat := 73

/-- The most payload octets a frame may carry (R3). -/
def maxPayload : Nat := 64

/-- The CANCEL exchanges that may go unanswered before the slot is ABANDONED (R41, R101). -/
def maxCancelAttempts : Nat := 3

/-- The consecutive echo faults that take the line to FAULT (R146). -/
def maxEchoFaults : Nat := 3

end Sys2Proof.Config
end

