-- ==== Sys2Proof/Machine/State.lean ====
section
/-! DEFINITION. The state of the 3120, block by block (00_scope, "How the blocks fit together"), as plain data, and
its value right after a pin reset. Counts are Nat; what the host writes or reads as a whole word is a Word; sets of
tags and of addresses, which the host sees one bit for each member, are bit vectors. -/

namespace Sys2Proof.Machine

/-! ## The Slot Table (02_transaction_slots) -/

/-- The seven slot states (R23). -/
inductive SlotState where
  | free | owned | queued | sending | waiting | cancelling | done
  deriving DecidableEq, Repr

/-- The completion statuses (R29); `noStatus` is the status none of a live slot. -/
inductive Status where
  | noStatus | ok | late | cancelled | timeout | refused | rejected | noAnswer | stationLost | abandoned
  deriving DecidableEq, Repr

/-- One slot record (2.1). -/
structure Slot where
  state             : SlotState
  station           : Word
  priority          : Word
  retryLimit        : Word
  deadline          : Word
  requestLength     : Word
  request           : Vector Word 32
  postNumber        : Word
  attempts          : Nat
  cancelAttempts    : Nat
  hostCancel        : Bool
  deadlineExpired   : Bool
  cancelInFlight    : Bool
  status            : Status
  replyStatus       : Octet
  replyLength       : Nat
  reply             : Vector Word 32
  completionTime    : Word
  deadlineRemaining : Word
  deriving DecidableEq, Repr

/-- The 32 slots and the post counter (R31). -/
structure SlotTable where
  slots       : Vector Slot 32
  postCounter : Word
  deriving DecidableEq, Repr

/-! ## The Dispatch Queue (03_dispatch_and_the_line_scheduler) -/

/-- The two levels of the Dispatch Queue (R51). -/
inductive Level where
  | urgent | normal
  deriving DecidableEq, Repr

/-- One place of the Dispatch Queue: a queued slot, or the place held open (`none`) for the slot that is SENDING
(R52). -/
structure Place where
  level : Level
  slot  : Option SlotNo
  deriving DecidableEq, Repr

/-! ## The Station Table (04_stations_and_polling) -/

/-- The four station states (4.2). -/
inductive StationState where
  | disabled | unknown | active | offline
  deriving DecidableEq, Repr

/-- What a station is polled for (4.1). -/
inductive PollMode where
  | off | repliesOnly | repliesAndEvents
  deriving DecidableEq, Repr

/-- A pending acknowledgement, and the acknowledgement a POLL carries (R6, R82). -/
inductive Ack where
  | noAck
  | reply (tag : SlotNo)
  | event
  deriving DecidableEq, Repr

/-- One station entry (4.1). `holdDue` is the model's own: the millisecond step that ends the hold has come and its
expiry has still to be taken (R87; log 12). -/
structure Station where
  state         : StationState
  pollMode      : PollMode
  creditLimit   : Nat
  outstanding   : Nat
  noAnswer      : Nat
  holdRemaining : Nat
  holdDue       : Bool
  ack           : Ack
  quarantine    : BitVec 32
  deriving DecidableEq, Repr

/-- The entries, the rotation pointer (R81), the station change set (R89), the no-answer limit (R84) and HOLDOFF
(R87). Entry 0 stands for the eight words A00h–A07h that belong to no station (R74; log 21). -/
structure StationTable where
  entries       : Vector Station 32
  rotation      : Address
  changes       : BitVec 32
  noAnswerLimit : Nat
  holdoff       : Nat
  deriving DecidableEq, Repr

/-! ## The Event Classifier (06_event_classification) -/

/-- Which events pass a match entry's path test (R114). -/
inductive PathTest where
  | any | directOnly | relayedOnly
  deriving DecidableEq, Repr

/-- Where an event goes (R119). -/
inductive Action where
  | queueA | queueB | discard
  deriving DecidableEq, Repr

/-- One match entry (R108). -/
structure MatchEntry where
  enabled       : Bool
  joinPrevious  : Bool
  invert        : Bool
  path          : PathTest
  action        : Action
  alert         : Bool
  stationFilter : Fin 32
  offset        : Fin 64
  byteMask      : Word
  signature     : Word
  deriving DecidableEq, Repr

/-- The match table and CLASSIFIER SETUP (R111). -/
structure Classifier where
  table         : Vector MatchEntry 8
  enable        : Bool
  defaultAction : Action
  deriving DecidableEq, Repr

/-- The Classifier's decision on one event (R119). -/
structure Decision where
  action : Action
  alert  : Bool
  chain  : Nat
  deriving DecidableEq, Repr

/-! ## The Event Pool (07_the_event_pool_and_event_queues) -/

/-- The two event queues. -/
inductive EventQueue where
  | a | b
  deriving DecidableEq, Repr

/-- One event record (7.1). -/
structure EventRecord where
  station       : Address
  relayed       : Bool
  repeatFlag    : Bool
  queue         : EventQueue
  alert         : Bool
  chain         : Nat
  payloadLength : Nat
  origin        : Octet
  hopCount      : Nat
  arrivalTime   : Word
  payload       : Vector Word 32
  deriving DecidableEq, Repr

/-- The 24 records, the free list, kept in ascending order (R125; log 22), and the two queues, oldest first. The
reserved record stands in the record of the exchange in flight (R65, R126). -/
structure EventPool where
  records : Vector EventRecord 24
  free    : List RecordNo
  queueA  : List RecordNo
  queueB  : List RecordNo
  deriving DecidableEq, Repr

/-! ## The Completion Unit (09_completion_reporting_and_interrupts) -/

/-- The seven latched causes (9.3). -/
structure Causes where
  complete  : Bool
  alert     : Bool
  line      : Bool
  lineError : Bool
  stray     : Bool
  refused   : Bool
  initDone  : Bool
  deriving DecidableEq, Repr

/-- The completion queue (R152), the coalescing timer (`none` when stopped, R156), COALESCE (R154), the latched
causes (R158), CAUSE ENABLE (R160) and the interrupt enable of CONTROL (R161). -/
structure CompletionUnit where
  queue           : List SlotNo
  timer           : Option Nat
  threshold       : Nat
  holdoff         : Nat
  causes          : Causes
  enables         : BitVec 10
  interruptEnable : Bool
  deriving DecidableEq, Repr

/-! ## The Line Scheduler (03_dispatch_and_the_line_scheduler) and the exchange in flight -/

/-- The kind of a POLL, with the event record reserved for one of kind ANY (R63). -/
inductive PollKind where
  | replyOnly
  | any (record : RecordNo)
  deriving DecidableEq, Repr

/-- The kind of the exchange in flight (R65), with the acknowledgement a POLL carries (R6). -/
inductive ExchangeKind where
  | cancel (slot : SlotNo)
  | request (slot : SlotNo)
  | poll (kind : PollKind) (ack : Ack)
  deriving DecidableEq, Repr

/-- A valid EVENT with the relay octets (origin, hop count) of a relayed one, its arrival time (R127) and the
Classifier's decision, held with the outcome until it is taken (R112). -/
structure EventAnswer where
  repeatFlag : Bool
  relay      : Option (Octet × Octet)
  payload    : List Octet
  arrival    : Word
  decision   : Decision
  deriving DecidableEq, Repr

/-- A valid answer (R7, R13). -/
inductive Answer where
  | accept
  | refuse (reason : Octet)
  | reply (tag : SlotNo) (repeatFlag : Bool) (status : Octet) (payload : List Octet)
  | event (e : EventAnswer)
  | idle
  | cancelled
  deriving DecidableEq, Repr

/-- The outcome of an exchange (R15). -/
inductive ExchangeOutcome where
  | answer (a : Answer)
  | noAnswer
  | checkError
  | protocolError
  | echoFault
  deriving DecidableEq, Repr

/-- How far the exchange in flight has come (1.4): its frame is going out, its answer window is open, an answer is
being received, or its outcome is decided and has still to be taken. -/
inductive Phase where
  | sending
  | windowOpen
  | receiving
  | decided (outcome : ExchangeOutcome)
  deriving DecidableEq, Repr

/-- The exchange in flight: its kind, the station its frame is addressed to, the frame as fixed at the choice (R6)
and its phase. -/
structure Exchange where
  kind    : ExchangeKind
  station : Address
  frame   : List Octet
  phase   : Phase
  deriving DecidableEq, Repr

/-- The request-burst counter, the request-burst limit of STATION LIMITS (R59), and the exchange in flight (R65). -/
structure LineScheduler where
  burst      : Nat
  burstLimit : Nat
  exchange   : Option Exchange
  deriving DecidableEq, Repr

/-! ## The Line Engine (01_the_split_reply_line, 08_line_control_and_line_faults) -/

/-- The five line states (08). -/
inductive LineState where
  | off | starting | running | stopping | fault
  deriving DecidableEq, Repr

/-- The four bit rates (R1). -/
inductive Rate where
  | kbit125 | kbit500 | mbit1 | mbit2
  deriving DecidableEq, Repr

/-- The kind of a line error (R147). -/
inductive ErrorKind where
  | noError | check | protocol | echo
  deriving DecidableEq, Repr

/-- The line error record (R147). -/
structure ErrorRecord where
  kind    : ErrorKind
  station : Address
  time    : Word
  deriving DecidableEq, Repr

/-- The line state, the consecutive echo count (R146), LINE RATE and ANSWER WINDOW (R149), the line clock (R148),
the line error record, and whether the turnaround gap has passed (R4). -/
structure LineEngine where
  state        : LineState
  echoCount    : Nat
  rate         : Rate
  answerWindow : Nat
  clock        : Word
  error        : ErrorRecord
  gapPassed    : Bool
  deriving DecidableEq, Repr

/-! ## The Answer Handler (05_replies_deadlines_and_cancellation) -/

/-- The stray record (R95). Station 0 means that no stray has been taken. -/
structure StrayRecord where
  station : Address
  tag     : SlotNo
  time    : Word
  deriving DecidableEq, Repr

/-! ## The Host Port (10_the_host_port) -/

/-- The record fields that POST tests (R33), in the order of their field codes (11.3). -/
inductive RecordField where
  | station | priority | retryLimit | requestLength
  deriving DecidableEq, Repr

/-- The results of COMMAND RESULT (11.3). -/
inductive Result where
  | noCommand
  | done
  | nothing
  | wrongState
  | badRecord (field : RecordField)
  | stationUnavailable
  | quarantined
  | already
  | busy
  | badOperand
  deriving DecidableEq, Repr

/-- Which reset came last (R171, R172). -/
inductive ResetCause where
  | pin | chip
  deriving DecidableEq, Repr

/-- The Host Port's own state (10) and the RUN bit of CONTROL (R137). `sweep` is the INIT flag (R173). -/
structure HostPort where
  windowAddress : BitVec 12
  command       : Word
  commandArg    : Word
  result        : Result
  refusedFlag   : Bool
  resetCause    : ResetCause
  sweep         : Bool
  run           : Bool
  deriving DecidableEq, Repr

/-- The levels of RESET (true when asserted) and LFAULT, and D0–D15 as a read of WINDOW DATA last drove them
(1.6, R169). -/
structure Pins where
  reset   : Bool
  lfault  : Bool
  dataOut : Word
  deriving DecidableEq, Repr

/-! ## The machine -/

/-- The 3120: the state each block owns, the pins, and the commands that wait, first in first out. -/
structure State where
  pending        : List Instr
  pins           : Pins
  hostPort       : HostPort
  slotTable      : SlotTable
  dispatchQueue  : List Place
  cancelList     : List SlotNo
  stationTable   : StationTable
  classifier     : Classifier
  eventPool      : EventPool
  completionUnit : CompletionUnit
  lineScheduler  : LineScheduler
  lineEngine     : LineEngine
  strayRecord    : StrayRecord
  deriving DecidableEq, Repr

/-- Why the machine would stop with a fault. The spec gives the 3120 no stop (INVENTORY.md, Faults), so there is no
reason and no meaning raises one. -/
inductive Fault where
  deriving DecidableEq, Repr

/-- Why the model would have no meaning for a command. `notModelled` is raised by exec alone, for a command that has
no meaning yet, which is safe: nothing can be proved of its effect. No arm of exec uses it. -/
inductive Refusal where
  | notModelled (mnemonic : String)
  deriving DecidableEq, Repr

/-! ## The values after a reset -/

/-- A slot of which every word is 0, as the sweep leaves it (R49). -/
def Slot.zero : Slot :=
  { state := .free, station := 0, priority := 0, retryLimit := 0, deadline := 0, requestLength := 0,
    request := Vector.replicate 32 0, postNumber := 0, attempts := 0, cancelAttempts := 0,
    hostCancel := false, deadlineExpired := false, cancelInFlight := false, status := .noStatus,
    replyStatus := 0, replyLength := 0, reply := Vector.replicate 32 0, completionTime := 0,
    deadlineRemaining := 0 }

/-- A station entry of which every word is 0. -/
def Station.zero : Station :=
  { state := .disabled, pollMode := .off, creditLimit := 0, outstanding := 0, noAnswer := 0,
    holdRemaining := 0, holdDue := false, ack := .noAck, quarantine := 0 }

/-- The entries as the sweep leaves them: configuration word 0200h in entries 1–31, all else 0 (R91, R173). -/
def Station.initial (a : Address) : Station :=
  if a = 0 then Station.zero else { Station.zero with creditLimit := 2 }

/-- A match entry of which every word is 0 (R122). -/
def MatchEntry.zero : MatchEntry :=
  { enabled := false, joinPrevious := false, invert := false, path := .any, action := .queueA, alert := false,
    stationFilter := 0, offset := 0, byteMask := 0, signature := 0 }

/-- An event record of which every word is 0 (R136). -/
def EventRecord.zero : EventRecord :=
  { station := 0, relayed := false, repeatFlag := false, queue := .a, alert := false, chain := 0,
    payloadLength := 0, origin := 0, hopCount := 0, arrivalTime := 0, payload := Vector.replicate 32 0 }

/-- No cause latched (R159). -/
def Causes.clear : Causes :=
  { complete := false, alert := false, line := false, lineError := false, stray := false, refused := false,
    initDone := false }

/-- The Slot Table's starting state with the words zeroed by the sweep (R31, R49). -/
def SlotTable.initial : SlotTable :=
  { slots := Vector.replicate 32 Slot.zero, postCounter := 0 }

/-- The match table zeroed (R122). -/
def MatchEntry.initialTable : Vector MatchEntry 8 := Vector.replicate 8 MatchEntry.zero

/-- The Event Pool's starting state (R136). -/
def EventPool.initial : EventPool :=
  { records := Vector.replicate 24 EventRecord.zero, free := List.finRange 24, queueA := [], queueB := [] }

/-- The machine right after a pin reset: the release of RESET has been taken, every register holds its reset value
and the initialisation sweep runs (R171, R173; log 9). The line is OFF; no exchange is in flight. The pins RESET
and LFAULT are deasserted and no read has driven D0–D15 (logs 7 and 8). -/
def State.reset : State :=
  { pending := []
    pins := { reset := false, lfault := false, dataOut := 0 }
    hostPort :=
      { windowAddress := 0, command := 0, commandArg := 0, result := .noCommand, refusedFlag := false,
        resetCause := .pin, sweep := true, run := false }
    slotTable := SlotTable.initial
    dispatchQueue := []
    cancelList := []
    stationTable :=
      { entries := Vector.ofFn Station.initial, rotation := 0, changes := 0, noAnswerLimit := 4, holdoff := 20 }
    classifier := { table := MatchEntry.initialTable, enable := false, defaultAction := .queueA }
    eventPool := EventPool.initial
    completionUnit :=
      { queue := [], timer := none, threshold := 1, holdoff := 0, causes := Causes.clear, enables := 0,
        interruptEnable := false }
    lineScheduler := { burst := 0, burstLimit := 4, exchange := none }
    lineEngine :=
      { state := .off, echoCount := 0, rate := .kbit500, answerWindow := 160, clock := 0,
        error := { kind := .noError, station := 0, time := 0 }, gapPassed := false }
    strayRecord := { station := 0, tag := 0, time := 0 } }

end Sys2Proof.Machine
end

