-- ==== Sys2Proof/Machine/Operands.lean ====
section
/-! DEFINITION. Bit fields, the codes of the chapter of layouts, the register select, the table-space map and the
operands of a command in COMMAND ARG (11_layouts_registers_table_space_and_frames; 10_the_host_port). -/

namespace Sys2Proof.Machine

/-! ## Bit fields -/

/-- The field of `width` bits from bit `lo` of a word. -/
def fieldOf (w : Word) (lo width : Nat) : Nat := (w.extractLsb' lo width).toNat

/-- A value placed in the field of `width` bits from bit `lo`, every other bit 0 (R175, R177). -/
def putField (lo width n : Nat) : Word := (BitVec.ofNat width n).setWidth 16 <<< lo

/-- A flag placed at bit `i`. -/
def putBit (i : Nat) (b : Bool) : Word := putField i 1 b.toNat

/-- The one-member set holding `n`, one bit for each member. -/
def memberBit (n : Fin 32) : BitVec 32 := BitVec.twoPow 32 n.val

/-! ## Codes (11.2 to 11.4) -/

def SlotState.code : SlotState → Nat
  | .free => 0 | .owned => 1 | .queued => 2 | .sending => 3 | .waiting => 4 | .cancelling => 5 | .done => 6

def Status.code : Status → Nat
  | .noStatus => 0 | .ok => 1 | .late => 2 | .cancelled => 3 | .timeout => 4 | .refused => 5 | .rejected => 6
  | .noAnswer => 7 | .stationLost => 8 | .abandoned => 9

def StationState.code : StationState → Nat
  | .disabled => 0 | .unknown => 1 | .active => 2 | .offline => 3

def PollMode.code : PollMode → Nat
  | .off => 0 | .repliesOnly => 1 | .repliesAndEvents => 2

/-- The poll mode a code names; code 3 names none (11.4). -/
def PollMode.ofCode : Nat → Option PollMode
  | 0 => some .off | 1 => some .repliesOnly | 2 => some .repliesAndEvents | _ => none

def PathTest.code : PathTest → Nat
  | .any => 0 | .directOnly => 1 | .relayedOnly => 2

/-- The path a code names; code 3 names none (11.4). -/
def PathTest.ofCode : Nat → Option PathTest
  | 0 => some .any | 1 => some .directOnly | 2 => some .relayedOnly | _ => none

def Action.code : Action → Nat
  | .queueA => 0 | .queueB => 1 | .discard => 2

/-- The action a code names; code 3 names none (11.2, 11.4). -/
def Action.ofCode : Nat → Option Action
  | 0 => some .queueA | 1 => some .queueB | 2 => some .discard | _ => none

def EventQueue.code : EventQueue → Nat
  | .a => 0 | .b => 1

/-- The queue a queue operand names; 2–255 name none (11.3). -/
def EventQueue.ofCode : Nat → Option EventQueue
  | 0 => some .a | 1 => some .b | _ => none

def LineState.code : LineState → Nat
  | .off => 0 | .starting => 1 | .running => 2 | .stopping => 3 | .fault => 4

def Rate.code : Rate → Nat
  | .kbit125 => 0 | .kbit500 => 1 | .mbit1 => 2 | .mbit2 => 3

/-- The rate a code names; codes 4–7 name none (11.2). -/
def Rate.ofCode : Nat → Option Rate
  | 0 => some .kbit125 | 1 => some .kbit500 | 2 => some .mbit1 | 3 => some .mbit2 | _ => none

def ErrorKind.code : ErrorKind → Nat
  | .noError => 0 | .check => 1 | .protocol => 2 | .echo => 3

def ResetCause.code : ResetCause → Nat
  | .pin => 0 | .chip => 1

def RecordField.code : RecordField → Nat
  | .station => 1 | .priority => 2 | .retryLimit => 3 | .requestLength => 4

def Result.code : Result → Nat
  | .noCommand => 0 | .done => 1 | .nothing => 2 | .wrongState => 3 | .badRecord _ => 4
  | .stationUnavailable => 5 | .quarantined => 6 | .already => 7 | .busy => 8 | .badOperand => 9

/-- COMMAND RESULT as it reads: the result code in bits 0–7 and, for BAD_RECORD alone, the field code in bits 8–11
(11.3). -/
def Result.word : Result → Word
  | .badRecord f => putField 0 8 4 ||| putField 8 4 f.code
  | r => putField 0 8 r.code

/-! ## The register select (R162, 11.1) -/

/-- The 26 registers. -/
inductive Register where
  | ident | control | status | cause | causeEnable | command | commandArg | commandResult | completionHead
  | completionCount | eventHeadA | eventHeadB | poolStatus | stationChangesLow | stationChangesHigh
  | windowAddress | windowData | lineRate | answerWindow | stationLimits | holdoff | coalesce | lineClock
  | lineErrorRecord | strayRecord | classifierSetup
  deriving DecidableEq, Repr

/-- The registers in the order of their offsets 00h, 02h, … 32h (11.1). -/
def Register.inOrder : List Register :=
  [.ident, .control, .status, .cause, .causeEnable, .command, .commandArg, .commandResult,
   .completionHead, .completionCount, .eventHeadA, .eventHeadB, .poolStatus, .stationChangesLow,
   .stationChangesHigh, .windowAddress, .windowData, .lineRate, .answerWindow, .stationLimits,
   .holdoff, .coalesce, .lineClock, .lineErrorRecord, .strayRecord, .classifierSetup]

/-- The register that A5…A1 select, at byte offset 2 × select; `none` at the empty offsets 34h–3Eh (R162). -/
def registerAt (select : BitVec 5) : Option Register := Register.inOrder[select.toNat]?

/-! ## The table-space map (10.3, 11.4) -/

/-- A word of table space by its owner and its place in the owner's record. -/
inductive TableWord where
  | slotWord (slot : SlotNo) (k : Fin 80)
  | stationWord (station : Address) (k : Fin 8)
  | matchWord (entry : EntryNo) (k : Fin 8)
  | eventWord (record : RecordNo) (k : Fin 40)
  | emptyWord
  deriving DecidableEq, Repr

/-- Where a word address lies (10.3): slot n at 80n, station a at A00h + 8a, match entry i at B00h + 8i, event
record r at C00h + 40r; B40h–BFFh and FC0h–FFFh are empty. -/
def tableWord (addr : BitVec 12) : TableWord :=
  let a := addr.toNat
  if h : a < 0xA00 then .slotWord ⟨a / 80, by omega⟩ ⟨a % 80, by omega⟩
  else if h : a < 0xB00 then .stationWord ⟨(a - 0xA00) / 8, by omega⟩ ⟨(a - 0xA00) % 8, by omega⟩
  else if h : a < 0xB40 then .matchWord ⟨(a - 0xB00) / 8, by omega⟩ ⟨(a - 0xB00) % 8, by omega⟩
  else if a < 0xC00 then .emptyWord
  else if h : a < 0xFC0 then .eventWord ⟨(a - 0xC00) / 40, by omega⟩ ⟨(a - 0xC00) % 40, by omega⟩
  else .emptyWord

/-! ## Operands of a command (R165, R166, 11.3) -/

/-- COMMAND ARG bits 0–7 as a slot operand; `none` above 31, which is BAD_OPERAND (R47). -/
def slotOperand (arg : Word) : Option SlotNo :=
  let n := fieldOf arg 0 8
  if h : n < 32 then some ⟨n, h⟩ else none

/-- COMMAND ARG bits 0–7 as a station operand; `none` outside 1–31, which is BAD_OPERAND (R90). -/
def stationOperand (arg : Word) : Option Address :=
  let n := fieldOf arg 0 8
  if h : 0 < n ∧ n < 32 then some ⟨n, h.2⟩ else none

/-- COMMAND ARG bits 8–15 as a tag operand; `none` above 31, which is BAD_OPERAND (R90). -/
def tagOperand (arg : Word) : Option SlotNo :=
  let n := fieldOf arg 8 8
  if h : n < 32 then some ⟨n, h⟩ else none

/-- COMMAND ARG bits 0–7 as a queue operand; `none` for any but A and B (R131). -/
def queueOperand (arg : Word) : Option EventQueue := EventQueue.ofCode (fieldOf arg 0 8)

/-! ## Payload octets in words (00_scope, Conventions; 11.4) -/

/-- Octet `i` of a payload held two to a word, the lower-numbered octet in the low half. -/
def payloadOctet (p : Vector Word 32) (i : Nat) : Octet :=
  let w := p.toList.getD (i / 2) 0
  if i % 2 = 0 then w.extractLsb' 0 8 else w.extractLsb' 8 8

/-- The first `n` octets of a payload, in increasing position (R6). -/
def payloadOctets (p : Vector Word 32) (n : Nat) : List Octet := (List.range n).map (payloadOctet p)

/-- Octets laid out two to a word from octet 0 of a payload region, the octets beyond them 0 (R29, R127). -/
def packPayload (octets : List Octet) : Vector Word 32 :=
  Vector.ofFn fun k => octets.getD (2 * k.val + 1) 0 ++ octets.getD (2 * k.val) 0

/-! ## Lists of all numbers -/

/-- The slot numbers in increasing order (R30, R32). -/
def allSlots : List SlotNo := List.finRange 32

/-- The station addresses 1–31 in increasing order. -/
def allStations : List Address := (List.finRange 32).filter fun a => 0 < a.val

/-- The record numbers in increasing order (R125). -/
def allRecords : List RecordNo := List.finRange 24

end Sys2Proof.Machine
end

