-- ==== Sys2Proof/Machine/Flags.lean ====
section
/-! DEFINITION. The causes, the completion queue with its coalescing timer, and INTR
(09_completion_reporting_and_interrupts). -/

namespace Sys2Proof.Machine

/-! ## Coalescing (R152 to R157) -/

/-- COMPLETE becomes latched and the coalescing timer stops, as one change (R155). -/
def CompletionUnit.latchComplete (u : CompletionUnit) : CompletionUnit :=
  { u with causes := { u.causes with complete := true }, timer := none }

/-- The timer starts with its remaining count at the holdoff; with a holdoff of 0 it expires in the same change
(R156). -/
def CompletionUnit.startTimer (u : CompletionUnit) : CompletionUnit :=
  if u.holdoff = 0 then u.latchComplete else { u with timer := some u.holdoff }

/-- COMPLETE is latched when the queue's length is at or above the threshold (R155). -/
def CompletionUnit.compareThreshold (u : CompletionUnit) : CompletionUnit :=
  if u.threshold ≤ u.queue.length then u.latchComplete else u

/-- Slots join the tail in one change: the timer starts if the queue was empty and COMPLETE is not latched (R156),
and the length is compared once, after all of them have joined (R155). -/
def CompletionUnit.join (slots : List SlotNo) (u : CompletionUnit) : CompletionUnit :=
  if slots.isEmpty then u else
    let joined := { u with queue := u.queue ++ slots }
    (if u.queue.isEmpty && !u.causes.complete then joined.startTimer else joined).compareThreshold

/-- A slot leaves the queue from whatever place it holds; the timer stops when the queue becomes empty (R46, R152,
R156). -/
def CompletionUnit.leave (slot : SlotNo) (u : CompletionUnit) : CompletionUnit :=
  let rest := u.queue.filter (· ≠ slot)
  { u with queue := rest, timer := if rest.isEmpty then none else u.timer }

/-- The host's clear of COMPLETE (R157): a latched COMPLETE is cleared, and with a non-empty queue the timer
restarts or COMPLETE is latched again at once. Where COMPLETE is not latched nothing happens. -/
def CompletionUnit.clearComplete (u : CompletionUnit) : CompletionUnit :=
  if u.causes.complete then
    let cleared := { u with causes := { u.causes with complete := false } }
    if u.queue.isEmpty then cleared else cleared.startTimer.compareThreshold
  else u

/-- The timer's expiry: with the remaining count at 0, COMPLETE is latched and the timer stops (R156). -/
def CompletionUnit.expire (u : CompletionUnit) : CompletionUnit :=
  if u.timer = some 0 then u.latchComplete else u

/-- A running timer loses one at each millisecond step (R156). -/
def CompletionUnit.countDown (u : CompletionUnit) : CompletionUnit :=
  { u with timer := u.timer.map (· - 1) }

/-- An accepted write of COALESCE (R154, R155). -/
def CompletionUnit.setCoalesce (threshold holdoff : Nat) (u : CompletionUnit) : CompletionUnit :=
  CompletionUnit.compareThreshold { u with threshold := threshold, holdoff := holdoff }

/-! ## Latching and clearing the causes (9.3) -/

def CompletionUnit.latchAlert (u : CompletionUnit) : CompletionUnit :=
  { u with causes := { u.causes with alert := true } }

def CompletionUnit.latchLine (u : CompletionUnit) : CompletionUnit :=
  { u with causes := { u.causes with line := true } }

def CompletionUnit.latchLineError (u : CompletionUnit) : CompletionUnit :=
  { u with causes := { u.causes with lineError := true } }

def CompletionUnit.latchStray (u : CompletionUnit) : CompletionUnit :=
  { u with causes := { u.causes with stray := true } }

def CompletionUnit.latchRefused (u : CompletionUnit) : CompletionUnit :=
  { u with causes := { u.causes with refused := true } }

def CompletionUnit.latchInitDone (u : CompletionUnit) : CompletionUnit :=
  { u with causes := { u.causes with initDone := true } }

/-- The latched causes but COMPLETE cleared at whose position the written word holds a one (R158, 11.2). -/
def Causes.clearOnes (w : Word) (c : Causes) : Causes :=
  { c with
    alert     := c.alert && !w.getLsbD 3
    line      := c.line && !w.getLsbD 5
    lineError := c.lineError && !w.getLsbD 6
    stray     := c.stray && !w.getLsbD 7
    refused   := c.refused && !w.getLsbD 8
    initDone  := c.initDone && !w.getLsbD 9 }

/-- A write of CAUSE (R158): ones clear latched causes, COMPLETE's clearing acts on the timer too (R157), ones at
the level causes and at unplaced bits act on nothing. -/
def CompletionUnit.writeCause (w : Word) (u : CompletionUnit) : CompletionUnit :=
  let u' := if w.getLsbD 0 then u.clearComplete else u
  { u' with causes := u'.causes.clearOnes w }

/-! ## What the host sees -/

/-- EVENT_A is active while queue A holds a record (R133). -/
def State.eventA (s : State) : Bool := !s.eventPool.queueA.isEmpty

/-- EVENT_B is active while queue B holds a record (R133). -/
def State.eventB (s : State) : Bool := !s.eventPool.queueB.isEmpty

/-- STATION is active while the station change set holds an address (R89). -/
def State.stationCause (s : State) : Bool := s.stationTable.changes ≠ 0

/-- CAUSE as it reads: the ten causes at their positions, whatever the enables hold (R158, 11.2). -/
def State.causeWord (s : State) : Word :=
  let c := s.completionUnit.causes
  putBit 0 c.complete ||| putBit 1 s.eventA ||| putBit 2 s.eventB ||| putBit 3 c.alert |||
  putBit 4 s.stationCause ||| putBit 5 c.line ||| putBit 6 c.lineError ||| putBit 7 c.stray |||
  putBit 8 c.refused ||| putBit 9 c.initDone

/-- INTR: asserted while the interrupt enable is 1 and a cause with its enable set is latched or active (R161). -/
def State.intr (s : State) : Bool :=
  !s.pins.reset && s.completionUnit.interruptEnable
    && (s.causeWord &&& s.completionUnit.enables.setWidth 16) ≠ 0

end Sys2Proof.Machine
end

