-- ==== Sys2Proof/Machine/Ops.lean ====
section
/-! DEFINITION. The named operations over the blocks' state: reading and changing one slot or one station entry, the
Dispatch Queue, the Event Pool's free list, a refusal, and the completion of slots (R28). There is no exception in
this block: what it reports it reports through its causes (09). -/

namespace Sys2Proof.Machine

/-! ## Changing one block -/

def State.onPins (s : State) (f : Pins → Pins) : State := { s with pins := f s.pins }
def State.onHost (s : State) (f : HostPort → HostPort) : State := { s with hostPort := f s.hostPort }
def State.onSlots (s : State) (f : SlotTable → SlotTable) : State := { s with slotTable := f s.slotTable }
def State.onDispatch (s : State) (f : List Place → List Place) : State :=
  { s with dispatchQueue := f s.dispatchQueue }
def State.onCancelList (s : State) (f : List SlotNo → List SlotNo) : State :=
  { s with cancelList := f s.cancelList }
def State.onStations (s : State) (f : StationTable → StationTable) : State :=
  { s with stationTable := f s.stationTable }
def State.onClassifier (s : State) (f : Classifier → Classifier) : State :=
  { s with classifier := f s.classifier }
def State.onPool (s : State) (f : EventPool → EventPool) : State := { s with eventPool := f s.eventPool }
def State.onCompletion (s : State) (f : CompletionUnit → CompletionUnit) : State :=
  { s with completionUnit := f s.completionUnit }
def State.onScheduler (s : State) (f : LineScheduler → LineScheduler) : State :=
  { s with lineScheduler := f s.lineScheduler }
def State.onEngine (s : State) (f : LineEngine → LineEngine) : State := { s with lineEngine := f s.lineEngine }

/-! ## One slot, one station entry -/

/-- The record of slot `n`. -/
def State.slot (s : State) (n : SlotNo) : Slot := s.slotTable.slots[n]

/-- The record of slot `n` changed, every other slot and the post counter left. -/
def State.modifySlot (s : State) (n : SlotNo) (f : Slot → Slot) : State :=
  s.onSlots fun t => { t with slots := t.slots.set n.val (f t.slots[n]) }

/-- The entry of station `a`. -/
def State.station (s : State) (a : Address) : Station := s.stationTable.entries[a]

/-- The entry of station `a` changed, every other entry and the table's other fields left. -/
def State.modifyStation (s : State) (a : Address) (f : Station → Station) : State :=
  s.onStations fun t => { t with entries := t.entries.set a.val (f t.entries[a]) }

/-- Every entry changed by one rule. -/
def StationTable.mapEntries (f : Station → Station) (t : StationTable) : StationTable :=
  { t with entries := Vector.ofFn fun a => f t.entries[a] }

/-- The address in a slot's station field. The field is a whole word; in every slot that has been posted it is 1–31
(R33), so its low five bits are the address. -/
def Slot.address (r : Slot) : Address := ⟨r.station.toNat % 32, by omega⟩

/-- The slot's station field names station `a` (R42, R77, R92). -/
def Slot.names (r : Slot) (a : Address) : Bool := r.station.toNat = a.val

/-- QUEUED, SENDING, WAITING or CANCELLING: the states in which STATION DISABLE finds a slot live (R77). -/
def SlotState.live : SlotState → Bool
  | .queued | .sending | .waiting | .cancelling => true
  | .free | .owned | .done => false

/-- WAITING or CANCELLING: the states in which the station holds the slot's tag (R75). -/
def SlotState.held : SlotState → Bool
  | .waiting | .cancelling => true
  | .free | .owned | .queued | .sending | .done => false

/-- The station change set gains an address (R89). -/
def StationTable.noteChange (a : Address) (t : StationTable) : StationTable :=
  { t with changes := t.changes ||| memberBit a }

/-! ## A refusal (R164) -/

/-- A refused access sets the REFUSED flag and latches the REFUSED cause, as one change. -/
def State.reportRefusal (s : State) : State :=
  (s.onHost fun h => { h with refusedFlag := true }).onCompletion CompletionUnit.latchRefused

/-! ## The Dispatch Queue (R51 to R53) -/

/-- The slots of the queue in the order in which they were posted, both levels together; the held place holds
none (R52). -/
def queuedSlots (q : List Place) : List SlotNo := q.filterMap Place.slot

/-- The urgent or the normal list, oldest first (R51). -/
def levelList (l : Level) (q : List Place) : List SlotNo := queuedSlots (q.filter fun p => p.level = l)

/-- A posted slot joins the tail of its level; it is then younger than every slot in either list (R52). -/
def joinTail (l : Level) (n : SlotNo) (q : List Place) : List Place := q ++ [⟨l, some n⟩]

/-- A chosen slot leaves, and its place is held open (R52). -/
def holdPlace (n : SlotNo) (q : List Place) : List Place :=
  q.map fun p => if p.slot = some n then { p with slot := none } else p

/-- A slot returned to QUEUED fills the held place (R52). -/
def fillHeldPlace (n : SlotNo) (q : List Place) : List Place :=
  q.map fun p => if p.slot = none then { p with slot := some n } else p

/-- The held place is closed (R52). -/
def closeHeldPlace (q : List Place) : List Place := q.filter fun p => p.slot.isSome

/-- A slot leaves and its place is closed behind it (R53). -/
def leaveQueue (n : SlotNo) (q : List Place) : List Place := q.filter fun p => p.slot ≠ some n

/-- The level a priority field names: urgent for 1, normal for 0 (R34). -/
def levelOf (priority : Word) : Level := if priority = 1 then .urgent else .normal

/-! ## The Event Pool (R124, R125) -/

/-- The lowest-numbered record on the free list (R125). -/
def EventPool.lowestFree (p : EventPool) : Option RecordNo := allRecords.find? fun r => r ∈ p.free

/-- A record leaves the free list. -/
def EventPool.takeFree (r : RecordNo) (p : EventPool) : EventPool :=
  { p with free := p.free.filter (· ≠ r) }

/-- A record joins the free list, its words unchanged (R123, R125). -/
def EventPool.giveFree (r : RecordNo) (p : EventPool) : EventPool :=
  { p with free := allRecords.filter fun x => x = r || x ∈ p.free }

/-- The records of a queue, oldest first. -/
def EventPool.queueOf (q : EventQueue) (p : EventPool) : List RecordNo :=
  match q with
  | .a => p.queueA
  | .b => p.queueB

/-- A queue replaced. -/
def EventPool.setQueue (q : EventQueue) (l : List RecordNo) (p : EventPool) : EventPool :=
  match q with
  | .a => { p with queueA := l }
  | .b => { p with queueB := l }

/-- The record reserved for the exchange in flight, if any (R65, R126). -/
def State.reserved (s : State) : Option RecordNo :=
  match s.lineScheduler.exchange with
  | some { kind := .poll (.any r) _, .. } => some r
  | _ => none

/-! ## Completing slots (R28 to R30) -/

/-- The record of a slot that becomes DONE: its status, reply fields and completion time are set, its
deadline-remaining count stands, and its flags keep their values (R26, R28, R29). -/
def Slot.finished (r : Slot) (status : Status) (octet : Octet) (payload : List Octet) (clock : Word) : Slot :=
  { r with
    state := .done, status := status, replyStatus := octet, replyLength := payload.length,
    reply := packPayload payload, completionTime := clock }

/-- The claims of a slot that becomes DONE on its station's entry (R28): one off the outstanding count if the station
held the tag, and the tag quarantined after ABANDONED, and after STATION_LOST from WAITING or CANCELLING (R105). -/
def Station.release (n : SlotNo) (held : Bool) (status : Status) (e : Station) : Station :=
  { e with
    outstanding := if held then e.outstanding - 1 else e.outstanding
    quarantine :=
      if status = .abandoned || (status = .stationLost && held) then e.quarantine ||| memberBit n
      else e.quarantine }

/-- A slot becomes DONE, less its joining of the completion queue (R28): the record, the departure from the Dispatch
Queue or the Cancel List, and the claims on the Station Table. -/
def State.finishSlot (s : State) (n : SlotNo) (status : Status) (octet : Octet) (payload : List Octet) : State :=
  let r := s.slot n
  ((((s.modifySlot n fun r => r.finished status octet payload s.lineEngine.clock).onDispatch
    (leaveQueue n)).onCancelList fun l => l.filter (· ≠ n)).modifyStation r.address
    (Station.release n r.state.held status))

/-- A slot becomes DONE as one change, and joins the completion queue (R28). -/
def State.completeSlot (s : State) (n : SlotNo) (status : Status) (octet : Octet) (payload : List Octet) : State :=
  (s.finishSlot n status octet payload).onCompletion (CompletionUnit.join [n])

/-- The slots that a station's loss completes, in increasing order of slot number (R42). -/
def State.lostSlots (s : State) (a : Address) : List SlotNo :=
  allSlots.filter fun n =>
    (s.slot n).names a && ((s.slot n).state = .queued || (s.slot n).state.held)

/-- Every live slot of a lost station becomes DONE STATION_LOST; they join the completion queue in one change, in
increasing order of slot number (R30, R42). -/
def State.loseSlots (s : State) (a : Address) : State :=
  let lost := s.lostSlots a
  (lost.foldl (fun s n => s.finishSlot n .stationLost 0 []) s).onCompletion (CompletionUnit.join lost)

end Sys2Proof.Machine
end

