-- ==== Sys2Proof/Machine/Frames.lean ====
section
/-! DEFINITION. Octets, runs and frames on the line: the check, the frames the 3120 sends, the receiver, and the tests
on an answer (01_the_split_reply_line; 11.5). -/

namespace Sys2Proof.Machine

/-! ## Octets on the wire (R1) -/

/-- The ten bits of an octet, in the order sent: start bit (space), data least significant bit first, stop bit
(mark). A mark is `true`. -/
def octetBits (o : Octet) : List Bool :=
  [false, o.getLsbD 0, o.getLsbD 1, o.getLsbD 2, o.getLsbD 3, o.getLsbD 4, o.getLsbD 5, o.getLsbD 6,
   o.getLsbD 7, true]

/-- The bits of a frame the 3120 sends: each octet's start bit follows the previous octet's stop bit at once (R1). -/
def frameBits (frame : List Octet) : List Bool := frame.flatMap octetBits

/-! ## The check (R8) -/

/-- One bit of the check: the generator x^16 + x^12 + x^5 + 1. -/
def checkBit (c : Word) : Word := if c.msb then (c <<< 1) ^^^ 0x1021 else c <<< 1

/-- `n` bits of the check. -/
def checkBits : Nat → Word → Word
  | 0, c => c
  | n + 1, c => checkBits n (checkBit c)

/-- One octet enters the check most significant bit first. -/
def checkOctet (c : Word) (o : Octet) : Word := checkBits 8 (c ^^^ (o ++ (0 : Octet)))

/-- The check of a list of octets, from the starting value FFFFh, the final value as it stands. -/
def check (octets : List Octet) : Word := octets.foldl checkOctet 0xFFFF

/-- The check as the two octets sent, the high octet first. -/
def checkOctets (c : Word) : List Octet := [c.extractLsb' 8 8, c.extractLsb' 0 8]

/-! ## The frames the 3120 sends (R5, R6, 11.5) -/

/-- A frame: sync, the covered octets, and the check over them. -/
def sealFrame (covered : List Octet) : List Octet := Config.sync :: covered ++ checkOctets (check covered)

/-- REQUEST: kind code 1 with R at bit 4, station, tag, request length and payload. -/
def requestFrame (a : Address) (tag : SlotNo) (repeatFlag : Bool) (payload : List Octet) : List Octet :=
  sealFrame ([BitVec.ofNat 8 (1 + 16 * repeatFlag.toNat), BitVec.ofNat 8 a.val, BitVec.ofNat 8 tag.val,
    BitVec.ofNat 8 payload.length] ++ payload)

/-- The tag octet of a POLL: the acknowledgement kind in bits 5–6 and, for reply, the tag in bits 0–4. -/
def ackOctet : Ack → Octet
  | .noAck => 0
  | .reply t => BitVec.ofNat 8 (t.val + 32)
  | .event => 64

/-- POLL: kind code 2 with the poll kind at bit 6, station, acknowledgement, length 0. -/
def pollFrame (a : Address) (k : PollKind) (ack : Ack) : List Octet :=
  sealFrame [match k with | .replyOnly => 2 | .any _ => 66, BitVec.ofNat 8 a.val, ackOctet ack, 0]

/-- CANCEL: kind code 3, station, tag, length 0. -/
def cancelFrame (a : Address) (tag : SlotNo) : List Octet :=
  sealFrame [3, BitVec.ofNat 8 a.val, BitVec.ofNat 8 tag.val, 0]

/-! ## The receiver (R2, R3) -/

/-- The octets a frame has beside sync, kind, address, tag, length, payload and check: the status or reason octet of
REFUSE (9) and REPLY (10), and the two relay octets of a relayed EVENT (11). A kind that is not a station's has
none (R3). -/
def extraOctets (kind : Octet) : Nat :=
  match (kind.extractLsb' 0 4).toNat with
  | 9 | 10 => 1
  | 11 => if kind.getLsbD 5 then 2 else 0
  | _ => 0

/-- The extent that a frame's kind and length octets fix (R3). -/
def frameExtent (octets : List Octet) : Nat :=
  7 + extraOctets (octets.getD 1 0) + (octets.getD 4 0).toNat

/-- A first octet other than A5h or a length octet above 64 makes the run malformed (R3). -/
def badHeader (octets : List Octet) : Bool :=
  octets.getD 0 0 ≠ Config.sync || (5 ≤ octets.length && Config.maxPayload < (octets.getD 4 0).toNat)

/-- What the receiver makes of a run (R3). -/
inductive RunResult where
  | frame (octets : List Octet)
  | cutShort
  | malformed
  deriving DecidableEq, Repr

/-- The receiver takes octets until the frame's extent is reached, the run ends, or a malformed run reaches its 73rd
octet. A run ends at an idle time longer than 20 bit-times; the octets after the frame's end belong to a new run
(R3). `bad` says that the run is malformed so far. -/
def receiveFrom (taken : List Octet) (bad : Bool) : List RxOctet → RunResult
  | [] => if bad then .malformed else .cutShort
  | o :: rest =>
    if !taken.isEmpty && Config.maxGap < o.gap then
      if bad then .malformed else .cutShort
    else
      let taken' := taken ++ [o.data]
      let bad' := bad || !o.stopMark || badHeader taken'
      if bad' then
        if Config.maxFrameOctets ≤ taken'.length then .malformed else receiveFrom taken' bad' rest
      else if 5 ≤ taken'.length && taken'.length = frameExtent taken' then .frame taken'
      else receiveFrom taken' bad' rest

/-- What the receiver makes of a run of octets found on RXD. -/
def receive (run : List RxOctet) : RunResult := receiveFrom [] false run

/-! ## The fields of a received frame (R5, R7, 11.5) -/

/-- The fields of a frame that has reached its full extent. `status` is the reason or status octet, `origin` and `hop`
the relay octets; each is read only in the kinds that carry it. -/
structure RxFrame where
  code       : Nat
  repeatFlag : Bool
  relayed    : Bool
  address    : Address
  tag        : SlotNo
  length     : Nat
  status     : Octet
  origin     : Octet
  hop        : Octet
  payload    : List Octet
  deriving DecidableEq, Repr

/-- The low five bits of an octet, as an address or a tag (R5). -/
def lowFive (o : Octet) : Fin 32 := ⟨o.toNat % 32, by omega⟩

/-- The fields read out of a frame's octets. -/
def parseFrame (octets : List Octet) : RxFrame :=
  let kind := octets.getD 1 0
  let n := (octets.getD 4 0).toNat
  { code := (kind.extractLsb' 0 4).toNat
    repeatFlag := kind.getLsbD 4
    relayed := kind.getLsbD 5
    address := lowFive (octets.getD 2 0)
    tag := lowFive (octets.getD 3 0)
    length := n
    status := octets.getD 5 0
    origin := octets.getD 5 0
    hop := octets.getD 6 0
    payload := (octets.drop (5 + extraOctets kind)).take n }

/-- The frame's check is right: the computation over the covered octets followed by the two check octets gives 0000h
(R8). -/
def checkPasses (octets : List Octet) : Bool := check (octets.drop 1) = 0

/-! ## The tests on a well-formed answer (R12, R13) -/

/-- The eight cases of R12. -/
inductive ProtocolCase where
  | undefinedKind | wrongKind | wrongStation | wrongTag | lengthNotZero | badHopCount | ackedReply | ackedEvent
  deriving DecidableEq, Repr

/-- The kind is a valid answer to the frame sent, by the table of R13: ACCEPT 8 and REFUSE 9 to a REQUEST; REPLY 10,
IDLE 12 and, to a POLL ANY, EVENT 11 to a POLL; CANCELLED 13 and REPLY 10 to a CANCEL. -/
def validKind (x : ExchangeKind) (code : Nat) : Bool :=
  match x with
  | .request _ => code = 8 || code = 9
  | .poll .replyOnly _ => code = 10 || code = 12
  | .poll (.any _) _ => code = 10 || code = 11 || code = 12
  | .cancel _ => code = 10 || code = 13

/-- The tag that an answer to the frame sent must carry: that of a REQUEST or CANCEL (R13). -/
def ExchangeKind.tag? : ExchangeKind → Option SlotNo
  | .request n => some n
  | .cancel n => some n
  | .poll _ _ => none

/-- The acknowledgement the frame sent carried: none for a REQUEST or CANCEL. -/
def ExchangeKind.ack : ExchangeKind → Ack
  | .poll _ a => a
  | .request _ => .noAck
  | .cancel _ => .noAck

/-- The first case of R12 that applies to a well-formed answer, in the order of R12; `none` for a valid answer. -/
def protocolCase (kind : ExchangeKind) (station : Address) (f : RxFrame) : Option ProtocolCase :=
  if !(8 ≤ f.code && f.code ≤ 13) then some .undefinedKind
  else if !validKind kind f.code then some .wrongKind
  else if f.address ≠ station then some .wrongStation
  else if kind.tag?.any (· ≠ f.tag) then some .wrongTag
  else if f.code ≠ 10 && f.code ≠ 11 && f.length ≠ 0 then some .lengthNotZero
  else if f.code = 11 && f.relayed && (f.hop.toNat = 0 || 3 < f.hop.toNat) then some .badHopCount
  else if f.code = 10 && kind.ack = .reply f.tag then some .ackedReply
  else if f.code = 11 && kind.ack = .event then some .ackedEvent
  else none

end Sys2Proof.Machine
end

