-- ==== Sys2Proof/Machine/Classify.lean ====
section
/-! DEFINITION. The Event Classifier's evaluation of one event (06_event_classification). -/

namespace Sys2Proof.Machine

/-- What the Classifier reads of an EVENT: the station polled, the relay flag and the payload (R113, R114). -/
structure EventView where
  station : Address
  relayed : Bool
  payload : List Octet
  deriving DecidableEq, Repr

/-- The station test (R114). -/
def MatchEntry.stationTest (e : MatchEntry) (v : EventView) : Bool :=
  e.stationFilter.val = 0 || e.stationFilter.val = v.station.val

/-- The path test (R114). -/
def MatchEntry.pathTest (e : MatchEntry) (v : EventView) : Bool :=
  match e.path with
  | .any => true
  | .directOnly => !v.relayed
  | .relayedOnly => v.relayed

/-- The payload positions the mask selects, in increasing order: offset + j for each bit j of the mask (R115). -/
def MatchEntry.positions (e : MatchEntry) : List Nat :=
  ((List.range 16).filter fun j => e.byteMask.getLsbD j).map (e.offset.val + ·)

/-- The signature test (R115): passed with no octet selected; failed when a selected position is at or beyond the
payload length; otherwise the check of the selected octets must equal the signature. -/
def MatchEntry.signatureTest (e : MatchEntry) (v : EventView) : Bool :=
  e.positions.isEmpty ||
    (e.positions.all (· < v.payload.length) &&
      check (e.positions.map fun i => v.payload.getD i 0) = e.signature)

/-- The entry's result (R116): false when disabled; otherwise the three tests together, turned over by invert. -/
def MatchEntry.result (e : MatchEntry) (v : EventView) : Bool :=
  e.enabled && xor e.invert (e.stationTest v && e.pathTest v && e.signatureTest v)

/-- The first true chain of the entries from index `i` on, with its last entry (R117 to R119). `ok` says whether
every entry of the running chain before entry `i` was true. An entry begins a new chain when it is entry 0 or has
join-previous clear; it ends its chain when it is the last or the next entry has join-previous clear. -/
def firstTrueChain (v : EventView) (i : Nat) (ok : Bool) : List MatchEntry → Option (Nat × MatchEntry)
  | [] => none
  | e :: rest =>
    let ok' := (i = 0 || !e.joinPrevious || ok) && e.result v
    let isLast := match rest with
      | [] => true
      | next :: _ => !next.joinPrevious
    if isLast && ok' then some (i, e) else firstTrueChain v (i + 1) ok' rest

/-- The decision of a true chain: its last entry's action and alert and its number, a discard carrying alert 0
(R118, R119). -/
def chainDecision (number : Nat) (last : MatchEntry) : Decision :=
  { action := last.action, alert := last.alert && last.action ≠ .discard, chain := number }

/-- The default decision: alert 0 and chain number 8 (R119). -/
def Classifier.defaultDecision (c : Classifier) : Decision :=
  { action := c.defaultAction, alert := false, chain := 8 }

/-- The Classifier's decision on an event (R119): the first true chain, or the default when none is true or the
enable is 0. -/
def Classifier.decide (c : Classifier) (v : EventView) : Decision :=
  if c.enable then
    match firstTrueChain v 0 true c.table.toList with
    | some (n, e) => chainDecision n e
    | none => c.defaultDecision
  else c.defaultDecision

end Sys2Proof.Machine
end

