-- ==== Sys2Proof/Machine/TableSpace.lean ====
section
/-! DEFINITION. Table space as the window shows it: the word at each address and what a write there does
(10_the_host_port, 10.3; 11_layouts_registers_table_space_and_frames, 11.4). -/

namespace Sys2Proof.Machine

/-! ## Reading a word (R169, R177) -/

/-- Word `k` of a slot record (11.4). -/
def Slot.word (r : Slot) (k : Fin 80) : Word :=
  match k.val with
  | 0 => putField 0 3 r.state.code ||| putBit 4 r.hostCancel ||| putBit 5 r.deadlineExpired
           ||| putBit 6 r.cancelInFlight
  | 1 => r.station
  | 2 => r.priority
  | 3 => r.retryLimit
  | 4 => r.deadline
  | 5 => r.requestLength
  | 6 => r.postNumber
  | 7 => putField 0 4 r.attempts ||| putField 8 2 r.cancelAttempts
  | 8 => putField 0 4 r.status.code
  | 9 => r.replyStatus.setWidth 16
  | 10 => putField 0 7 r.replyLength
  | 11 => r.completionTime
  | 12 => r.deadlineRemaining
  | n => if n < 16 then 0 else if n < 48 then r.request.toList.getD (n - 16) 0
         else r.reply.toList.getD (n - 48) 0

/-- The two fields of word 4 of a station entry: acknowledgement tag and kind (11.4). -/
def Ack.word : Ack → Word
  | .noAck => 0
  | .reply t => putField 0 5 t.val ||| putField 8 2 1
  | .event => putField 8 2 2

/-- Word `k` of a station entry (11.4). -/
def Station.word (e : Station) (k : Fin 8) : Word :=
  match k.val with
  | 0 => putField 0 2 e.state.code
  | 1 => putField 0 2 e.pollMode.code ||| putField 8 4 e.creditLimit
  | 2 => putField 0 4 e.outstanding ||| putField 8 4 e.noAnswer
  | 3 => putField 0 8 e.holdRemaining
  | 4 => e.ack.word
  | 5 => e.quarantine.extractLsb' 0 16
  | 6 => e.quarantine.extractLsb' 16 16
  | _ => 0

/-- Word `k` of a match entry (11.4). -/
def MatchEntry.word (e : MatchEntry) (k : Fin 8) : Word :=
  match k.val with
  | 0 => putBit 0 e.enabled ||| putBit 1 e.joinPrevious ||| putBit 2 e.invert ||| putField 4 2 e.path.code
           ||| putField 8 2 e.action.code ||| putBit 12 e.alert
  | 1 => putField 0 8 e.stationFilter.val ||| putField 8 8 e.offset.val
  | 2 => e.byteMask
  | 3 => e.signature
  | _ => 0

/-- Word `k` of an event record (11.4). -/
def EventRecord.word (r : EventRecord) (k : Fin 40) : Word :=
  match k.val with
  | 0 => putField 0 5 r.station.val ||| putBit 8 r.relayed ||| putBit 9 r.repeatFlag
           ||| putField 10 1 r.queue.code ||| putBit 11 r.alert
  | 1 => putField 0 4 r.chain ||| putField 8 7 r.payloadLength
  | 2 => r.origin.setWidth 16 ||| putField 8 2 r.hopCount
  | 3 => r.arrivalTime
  | n => if n < 8 then 0 else r.payload.toList.getD (n - 8) 0

/-- The word of table space at an address, `none` in the empty ranges (R169). The eight words A00h–A07h read 0
(R74). -/
def State.tableRead (s : State) (addr : BitVec 12) : Option Word :=
  match tableWord addr with
  | .slotWord n k => some ((s.slot n).word k)
  | .stationWord a k => if a = 0 then some 0 else some ((s.station a).word k)
  | .matchWord i k => some (s.classifier.table[i].word k)
  | .eventWord r k => some (s.eventPool.records[r].word k)
  | .emptyWord => none

/-! ## Writing a word (R170) -/

/-- A write of a host word of a slot record, its fields replaced as written; `none` for a word that holds fields the
3120 writes, or no field (R24, R170 cases 3 and 4). -/
def Slot.writeWord (r : Slot) (k : Fin 80) (w : Word) : Option Slot :=
  match k.val with
  | 1 => some { r with station := w }
  | 2 => some { r with priority := w }
  | 3 => some { r with retryLimit := w }
  | 4 => some { r with deadline := w }
  | 5 => some { r with requestLength := w }
  | n => if h : 16 ≤ n ∧ n < 48 then some { r with request := r.request.set (n - 16) w (by omega) } else none

/-- A write of a station entry's configuration word; `none` for any other word, for a poll mode code that names no
mode and for a credit limit outside 1–8 (R73, R170 cases 5 and 6). -/
def Station.writeWord (e : Station) (k : Fin 8) (w : Word) : Option Station :=
  if k.val = 1 then
    let limit := fieldOf w 8 4
    match PollMode.ofCode (fieldOf w 0 2) with
    | some m => if 1 ≤ limit ∧ limit ≤ 8 then some { e with pollMode := m, creditLimit := limit } else none
    | none => none
  else none

/-- A write of a match entry's word; `none` for a control word whose path or action code is illegal, a second word
out of range, and words 4–7 (R109, R170 cases 7 and 8). -/
def MatchEntry.writeWord (e : MatchEntry) (k : Fin 8) (w : Word) : Option MatchEntry :=
  match k.val with
  | 0 =>
    match PathTest.ofCode (fieldOf w 4 2), Action.ofCode (fieldOf w 8 2) with
    | some p, some a =>
      some { e with enabled := w.getLsbD 0, joinPrevious := w.getLsbD 1, invert := w.getLsbD 2, path := p,
                    action := a, alert := w.getLsbD 12 }
    | _, _ => none
  | 1 =>
    if h : fieldOf w 0 8 < 32 ∧ fieldOf w 8 8 < 64 then
      some { e with stationFilter := ⟨fieldOf w 0 8, h.1⟩, offset := ⟨fieldOf w 8 8, h.2⟩ }
    else none
  | 2 => some { e with byteMask := w }
  | 3 => some { e with signature := w }
  | _ => none

/-- The state after an accepted write of a word of table space; `none` when the write is refused (R170, cases 2 to
9). A slot's words are written only while the slot is OWNED (case 3). -/
def State.tableWrite (s : State) (addr : BitVec 12) (w : Word) : Option State :=
  match tableWord addr with
  | .slotWord n k =>
    if (s.slot n).state = .owned then ((s.slot n).writeWord k w).map fun r => s.modifySlot n fun _ => r
    else none
  | .stationWord a k =>
    if a = 0 then none else ((s.station a).writeWord k w).map fun e => s.modifyStation a fun _ => e
  | .matchWord i k =>
    (s.classifier.table[i].writeWord k w).map fun e =>
      s.onClassifier fun c => { c with table := c.table.set i.val e }
  | .eventWord _ _ => none
  | .emptyWord => none

/-! ## Accesses to WINDOW DATA (R168 to R170) -/

/-- The window address steps on by one after every access to WINDOW DATA, and wraps (R168). -/
def State.stepWindow (s : State) : State :=
  s.onHost fun h => { h with windowAddress := h.windowAddress + 1 }

/-- What a read of WINDOW DATA drives on D0–D15. -/
def State.driveData (s : State) (w : Word) : State := s.onPins fun p => { p with dataOut := w }

/-- The word a read of WINDOW DATA returns; `none` when it is refused, during the sweep or in an empty range
(R169). -/
def State.windowWord (s : State) : Option Word :=
  if s.hostPort.sweep then none else s.tableRead s.hostPort.windowAddress

/-- A read of WINDOW DATA (R169): the word, or 0 and a refusal; the window address steps on. While RESET is asserted
the access is not taken and returns 0 (R171). -/
def State.readWindow (s : State) : State :=
  if s.pins.reset then s.driveData 0
  else
    match s.windowWord with
    | some w => (s.driveData w).stepWindow
    | none => (s.driveData 0).reportRefusal.stepWindow

/-- A write of WINDOW DATA (R170): accepted or refused, the window address steps on. -/
def State.writeWindow (s : State) (w : Word) : State :=
  match (if s.hostPort.sweep then none else s.tableWrite s.hostPort.windowAddress w) with
  | some s' => s'.stepWindow
  | none => s.reportRefusal.stepWindow

end Sys2Proof.Machine
end

