-- ==== Sys2Proof/Machine/AnswerHandler.lean ====
section
/-! DEFINITION. The Answer Handler's taking of an exchange's outcome, with its effects in the order of R66: the
exchange's own slot (or the poll's reply or event), the Station Table's bookkeeping, and the station's loss
(03_dispatch_and_the_line_scheduler, 3.4; 04_stations_and_polling; 05; 07). -/

namespace Sys2Proof.Machine

/-! ## The slot of a REQUEST (R37 to R39, R67 to R72) -/

/-- A valid ACCEPT: the held place is closed, the station's outstanding count rises, and the slot becomes WAITING, or
CANCELLING at the tail of the Cancel List if its host-cancel flag is set (R37). -/
def State.acceptSlot (s : State) (n : SlotNo) : State :=
  let r := s.slot n
  let s1 := (s.onDispatch closeHeldPlace).modifyStation r.address fun e => { e with outstanding := e.outstanding + 1 }
  if r.hostCancel then
    (s1.modifySlot n fun r => { r with state := .cancelling }).onCancelList (· ++ [n])
  else s1.modifySlot n fun r => { r with state := .waiting }

/-- The slot fills its held place and is QUEUED again (R38, R52). -/
def State.requeueSlot (s : State) (n : SlotNo) : State :=
  (s.modifySlot n fun r => { r with state := .queued }).onDispatch (fillHeldPlace n)

/-- The slot leaves SENDING for DONE, its held place closed (R52). -/
def State.endRequest (s : State) (n : SlotNo) (status : Status) (octet : Octet) : State :=
  (s.onDispatch closeHeldPlace).completeSlot n status octet []

/-- QUEUED again if a retry is allowed, that is if attempts is not above the retry limit; otherwise DONE (R38). -/
def State.retrySlot (s : State) (n : SlotNo) (status : Status) : State :=
  if (s.slot n).attempts ≤ (s.slot n).retryLimit.toNat then s.requeueSlot n else s.endRequest n status 0

/-- The reason octet of REFUSE that means BUSY (R7). -/
def busyReason : Octet := 1

/-- What becomes of a SENDING slot with host-cancel clear on an outcome other than ACCEPT (R38). -/
def State.failRequest (s : State) (n : SlotNo) : ExchangeOutcome → State
  | .answer (.refuse reason) =>
    if reason = busyReason then s.retrySlot n .refused else s.endRequest n .rejected reason
  | .echoFault => s.requeueSlot n
  | .noAnswer | .checkError | .protocolError => s.retrySlot n .noAnswer
  | .answer _ => s.retrySlot n .noAnswer

/-- The first effect of a REQUEST's outcome (R66): attempts rises unless the outcome is an echo fault (R25), then
ACCEPT by R37, a set host-cancel flag by R39, and any other outcome by R38. -/
def State.requestEffect (s : State) (n : SlotNo) (o : ExchangeOutcome) : State :=
  let s1 := if o = .echoFault then s else s.modifySlot n fun r => { r with attempts := r.attempts + 1 }
  if o = .answer .accept then s1.acceptSlot n
  else if (s1.slot n).hostCancel then s1.endRequest n .cancelled 0
  else s1.failRequest n o

/-! ## Replies (R92 to R95) -/

/-- A stray reply (R94): the tag leaves the station's quarantine set, the stray record is overwritten and STRAY is
latched. The station's bookkeeping follows as for any valid answer. -/
def State.takeStray (s : State) (a : Address) (tag : SlotNo) : State :=
  let s1 := s.modifyStation a fun e => { e with quarantine := e.quarantine &&& ~~~memberBit tag }
  { s1 with strayRecord := { station := a, tag := tag, time := s.lineEngine.clock } }.onCompletion
    CompletionUnit.latchStray

/-- A valid REPLY with a tag from a station (R92): matched to a WAITING slot it is OK, to a CANCELLING one LATE, and
otherwise it is stray. -/
def State.takeReply (s : State) (a : Address) (tag : SlotNo) (octet : Octet) (payload : List Octet) : State :=
  let r := s.slot tag
  if r.names a && r.state = .waiting then s.completeSlot tag .ok octet payload
  else if r.names a && r.state = .cancelling then s.completeSlot tag .late octet payload
  else s.takeStray a tag

/-! ## The slot of a CANCEL (R41, R99 to R102) -/

/-- The slot goes back to the tail of the Cancel List (R98). -/
def State.rejoinCancelList (s : State) (n : SlotNo) : State := s.onCancelList (· ++ [n])

/-- A CANCEL without a valid answer: cancel attempts rises, and at the third the slot is ABANDONED (R101). -/
def State.cancelUnanswered (s : State) (n : SlotNo) : State :=
  let s1 := s.modifySlot n fun r => { r with cancelAttempts := r.cancelAttempts + 1 }
  if Config.maxCancelAttempts ≤ (s1.slot n).cancelAttempts then s1.completeSlot n .abandoned 0 []
  else s1.rejoinCancelList n

/-- The first effect of a CANCEL's outcome (R66). The cancel-in-flight flag is cleared by every outcome (R41). A REPLY
answering a CANCEL carries its tag (R13) and is always matched to its slot (R92, R100). -/
def State.cancelEffect (s : State) (n : SlotNo) (o : ExchangeOutcome) : State :=
  let s1 := s.modifySlot n fun r => { r with cancelInFlight := false }
  match o with
  | .answer .cancelled =>
    s1.completeSlot n (if (s1.slot n).deadlineExpired then .timeout else .cancelled) 0 []
  | .answer (.reply _ _ octet payload) => s1.completeSlot n .late octet payload
  | .echoFault => s1.rejoinCancelList n
  | .noAnswer | .checkError | .protocolError => s1.cancelUnanswered n
  | .answer _ => s1.cancelUnanswered n

/-! ## The record reserved for a POLL (R127 to R130) -/

/-- The reserved record returns to the free list unwritten (R129, R130). -/
def State.returnReserved (s : State) : PollKind → State
  | .replyOnly => s
  | .any r => s.onPool (EventPool.giveFree r)

/-- The record as it is filled from the EVENT and the decision (R127). -/
def EventAnswer.record (e : EventAnswer) (a : Address) (q : EventQueue) : EventRecord :=
  { station := a
    relayed := e.relay.isSome
    repeatFlag := e.repeatFlag
    queue := q
    alert := e.decision.alert
    chain := e.decision.chain
    payloadLength := e.payload.length
    origin := (e.relay.map Prod.fst).getD 0
    hopCount := ((e.relay.map Prod.snd).getD 0).toNat
    arrivalTime := e.arrival
    payload := packPayload e.payload }

/-- The reserved record is filled, joins the tail of its queue and, with alert 1, latches ALERT (R127, R128). -/
def State.fileEvent (s : State) (r : RecordNo) (a : Address) (e : EventAnswer) (q : EventQueue) : State :=
  let s1 := s.onPool fun p =>
    EventPool.setQueue q (p.queueOf q ++ [r]) { p with records := p.records.set r.val (e.record a q) }
  if e.decision.alert then s1.onCompletion CompletionUnit.latchAlert else s1

/-- A valid EVENT goes where its decision says (R120). -/
def State.takeEvent (s : State) (k : PollKind) (a : Address) (e : EventAnswer) : State :=
  match k, e.decision.action with
  | .any r, .queueA => s.fileEvent r a e .a
  | .any r, .queueB => s.fileEvent r a e .b
  | k, _ => s.returnReserved k

/-- The first effect of a POLL's outcome (R66): a REPLY is matched or stray, an EVENT is filed or discarded, and in
every other case the reserved record is returned. -/
def State.pollEffect (s : State) (k : PollKind) (a : Address) (o : ExchangeOutcome) : State :=
  match o with
  | .answer (.reply tag _ octet payload) => (s.returnReserved k).takeReply a tag octet payload
  | .answer (.event e) => s.takeEvent k a e
  | .answer _ => s.returnReserved k
  | .noAnswer | .checkError | .protocolError | .echoFault => s.returnReserved k

/-! ## The Station Table's bookkeeping (R80 to R85) -/

/-- The pending acknowledgement after a valid answer (R82). -/
def nextAck (kind : ExchangeKind) (old : Ack) : Answer → Ack
  | .reply tag _ _ _ => .reply tag
  | .event _ => .event
  | .idle => .noAck
  | .accept => if kind.tag?.any fun t => old = .reply t then .noAck else old
  | .refuse _ => old
  | .cancelled => old

/-- REFUSE BUSY starts the station's hold at HOLDOFF (R68, R87). -/
def Station.startHold (holdoff : Nat) (a : Answer) (e : Station) : Station :=
  if a = .refuse busyReason then { e with holdRemaining := holdoff, holdDue := false } else e

/-- A valid answer: an UNKNOWN station becomes ACTIVE and joins the change set, the no-answer count is set to 0 (R80),
the pending acknowledgement follows R82, and REFUSE BUSY starts the hold. -/
def State.bookAnswer (s : State) (x : Exchange) (ans : Answer) : State :=
  let e := s.station x.station
  let s1 := s.modifyStation x.station fun e =>
    Station.startHold s.stationTable.holdoff ans
      { e with
        state := if e.state = .unknown then .active else e.state
        noAnswer := 0
        ack := nextAck x.kind e.ack ans }
  if e.state = .unknown then s1.onStations (StationTable.noteChange x.station) else s1

/-- The move to OFFLINE (R85): the station's live slots are completed STATION_LOST, the hold and the pending
acknowledgement are cleared, and the address joins the change set. The no-answer count stands. -/
def State.goOffline (s : State) (a : Address) : State :=
  (((s.modifyStation a fun e => { e with state := .offline }).loseSlots a).modifyStation a fun e =>
    { e with holdRemaining := 0, holdDue := false, ack := .noAck }).onStations (StationTable.noteChange a)

/-- An exchange without a valid answer: the no-answer count rises (R83), and at the no-answer limit the station is
lost (R85). -/
def State.bookSilence (s : State) (a : Address) : State :=
  let s1 := s.modifyStation a fun e => { e with noAnswer := e.noAnswer + 1 }
  if s1.stationTable.noAnswerLimit ≤ (s1.station a).noAnswer then s1.goOffline a else s1

/-- The second and third effects of R66. An echo fault says nothing about the station (R84). -/
def State.book (s : State) (x : Exchange) : ExchangeOutcome → State
  | .answer ans => s.bookAnswer x ans
  | .noAnswer | .checkError | .protocolError => s.bookSilence x.station
  | .echoFault => s

/-! ## Taking the outcome (R66) -/

/-- The effects of an exchange's outcome in the order of R66. A POLL whose station the host has disabled meanwhile
only returns its record (R78). -/
def State.applyOutcome (s : State) (x : Exchange) (o : ExchangeOutcome) : State :=
  match x.kind with
  | .request n => (s.requestEffect n o).book x o
  | .cancel n => (s.cancelEffect n o).book x o
  | .poll k _ =>
    if (s.station x.station).state = .disabled then s.returnReserved k
    else (s.pollEffect k x.station o).book x o

/-- The record of the exchange in flight is cleared (R65). -/
def State.endExchange (s : State) : State := s.onScheduler fun l => { l with exchange := none }

/-- The outcome is taken: the exchange is no longer in flight and its effects are made, as one change. -/
def State.settle (s : State) (x : Exchange) (o : ExchangeOutcome) : State := s.endExchange.applyOutcome x o

end Sys2Proof.Machine
end

