-- ==== Sys2Proof/Machine/LineControl.lean ====
section
/-! DEFINITION. The line state and its moves, the line error record, faults, and the stages of an exchange on the line
(08_line_control_and_line_faults; 01_the_split_reply_line). -/

namespace Sys2Proof.Machine

/-! ## The line error record and the line's moves -/

/-- The line error record is written whole and LINE_ERROR is latched (R147). -/
def State.recordError (s : State) (kind : ErrorKind) (a : Address) : State :=
  (s.onEngine fun l => { l with error := { kind := kind, station := a, time := l.clock } }).onCompletion
    CompletionUnit.latchLineError

/-- The line state moves. -/
def State.moveLine (s : State) (l : LineState) : State := s.onEngine fun e => { e with state := l }

/-- A move of the line that latches LINE (R151). -/
def State.moveLineLatching (s : State) (l : LineState) : State :=
  (s.moveLine l).onCompletion CompletionUnit.latchLine

/-- Whether the turnaround gap has passed (R4). -/
def State.setGap (s : State) (passed : Bool) : State := s.onEngine fun e => { e with gapPassed := passed }

/-- The outcome that an abort by FAULT gives the exchange in flight (R143): a decided outcome stands, a frame
completely sent has no answer, and a frame not completely sent has an echo fault. -/
def Phase.abortOutcome : Phase → ExchangeOutcome
  | .decided o => o
  | .windowOpen | .receiving => .noAnswer
  | .sending => .echoFault

/-- The move to FAULT with LINE latched (R151); the exchange in flight is ended and its outcome taken in the same
change (R143). -/
def State.enterFault (s : State) : State :=
  let s1 := s.moveLineLatching .fault
  match s.lineScheduler.exchange with
  | none => s1
  | some x => s1.settle x x.phase.abortOutcome

/-- The line enters STARTING (R138): the consecutive echo count and the burst counter are 0 and the turnaround gap is
counted from this moment. With LFAULT asserted it moves on to FAULT at the entry (R145). -/
def State.enterStarting (s : State) : State :=
  let s1 := (s.onEngine fun e => { e with state := .starting, echoCount := 0, gapPassed := false }).onScheduler
    fun l => { l with burst := 0 }
  if s.pins.lfault then s1.enterFault else s1

/-! ## The RUN bit (R137, R138, R141 to R144) -/

/-- What the Line Engine does with a RUN value of 1: it starts an OFF line when no sweep runs, and returns STOPPING
to RUNNING. -/
def State.runOne (s : State) : State :=
  match s.lineEngine.state with
  | .off => if s.hostPort.sweep then s else s.enterStarting
  | .stopping => s.moveLine .running
  | .starting | .running | .fault => s

/-- What the Line Engine does with a RUN value of 0: STARTING ends with LINE latched, RUNNING ends or goes to STOPPING
while an exchange is in flight, and FAULT is left. -/
def State.runZero (s : State) : State :=
  match s.lineEngine.state with
  | .starting => s.moveLineLatching .off
  | .running => if s.lineScheduler.exchange.isSome then s.moveLine .stopping else s.moveLine .off
  | .fault => s.moveLine .off
  | .off | .stopping => s

/-! ## Events of the line -/

/-- The settle has passed with every sample marking; it has outlasted the turnaround gap (R139). -/
def State.endSettle (s : State) : State :=
  if s.lineEngine.state = .starting then (s.moveLine .running).setGap true else s

/-- A space during the settle (R140): FAULT, with the record of kind ECHO and station 0. -/
def State.contend (s : State) : State :=
  if s.lineEngine.state = .starting then (s.recordError .echo 0).enterFault else s

/-- The states in which the Line Engine looks at LFAULT (R145). -/
def LineState.looksAtLfault : LineState → Bool
  | .starting | .running | .stopping => true
  | .off | .fault => false

/-- LFAULT takes a level; asserted in STARTING, RUNNING or STOPPING it moves the line to FAULT (R145). -/
def State.setLfault (s : State) (level : Bool) : State :=
  let s1 := s.onPins fun p => { p with lfault := level }
  if level && s.lineEngine.state.looksAtLfault then s1.enterFault else s1

/-- The phase of the exchange in flight, if there is one. -/
def State.phase (s : State) : Option Phase := s.lineScheduler.exchange.map Exchange.phase

/-- The exchange in flight comes to a phase. -/
def State.setPhase (s : State) (p : Phase) : State :=
  s.onScheduler fun l => { l with exchange := l.exchange.map fun x => { x with phase := p } }

/-- The turnaround gap passes (R4). While a frame is going out or an answer is being received, no gap is counted. -/
def State.passGap (s : State) : State :=
  match s.phase with
  | some .sending | some .receiving => s
  | some .windowOpen | some (.decided _) | none => s.setGap true

/-- The frame is completely sent (R9): the answer window opens, the consecutive echo count is 0 (R146), and the
turnaround gap is counted from the frame's end (R4). -/
def State.frameSent (s : State) : State :=
  if s.phase = some .sending then
    ((s.setPhase .windowOpen).onEngine fun e => { e with echoCount := 0, gapPassed := false })
  else s

/-- An echo mismatch while the frame is going out (R14): the frame is abandoned with the outcome echo fault, the error
record is written, and the consecutive echo count rises; at the third the line moves to FAULT (R146). `bit` is the
frame's bit at whose sample the mismatch is found; a frame has no bit beyond its last stop bit. -/
def State.echoMismatch (s : State) (bit : Nat) : State :=
  match s.lineScheduler.exchange with
  | none => s
  | some x =>
    if x.phase = .sending && bit < (frameBits x.frame).length then
      let s1 := (((s.setPhase (.decided .echoFault)).recordError .echo x.station).onEngine fun e =>
        { e with echoCount := e.echoCount + 1, gapPassed := false })
      if Config.maxEchoFaults ≤ s1.lineEngine.echoCount then s1.enterFault else s1
    else s

/-- The start bit of an answer in bit-time `t` of the window, the first being 1 (R10): within the window an answer
begins; outside it the run is ignored. -/
def State.beginAnswer (s : State) (t : Nat) : State :=
  if s.phase = some .windowOpen ∧ 0 < t ∧ t ≤ s.lineEngine.answerWindow then s.setPhase .receiving else s

/-- The window closes with no answer begun (R10); the turnaround gap has then passed (R4). -/
def State.closeWindow (s : State) : State :=
  if s.phase = some .windowOpen then (s.setPhase (.decided .noAnswer)).setGap true else s

/-- The answer's fields, of a frame that passed the tests of R12. An EVENT is classified at this moment on the table as
it stands, and the line clock is its arrival time (R112, R127). -/
def State.readAnswer (s : State) (a : Address) (f : RxFrame) : Answer :=
  match f.code with
  | 8 => .accept
  | 9 => .refuse f.status
  | 10 => .reply f.tag f.repeatFlag f.status f.payload
  | 11 =>
    .event
      { repeatFlag := f.repeatFlag
        relay := if f.relayed then some (f.origin, f.hop) else none
        payload := f.payload
        arrival := s.lineEngine.clock
        decision := s.classifier.decide { station := a, relayed := f.relayed, payload := f.payload } }
  | 12 => .idle
  | _ => .cancelled

/-- The outcome that an answer's run decides (R11 to R13). -/
def State.decideRun (s : State) (x : Exchange) (run : List RxOctet) : ExchangeOutcome :=
  match receive run with
  | .cutShort => .checkError
  | .malformed => .checkError
  | .frame octets =>
    if checkPasses octets then
      let f := parseFrame octets
      match protocolCase x.kind x.station f with
      | some _ => .protocolError
      | none => .answer (s.readAnswer x.station f)
    else .checkError

/-- The line error record is updated for a check error or a protocol error, with the station the frame was addressed to
(R11, R12). -/
def State.noteLineError (s : State) (a : Address) : ExchangeOutcome → State
  | .checkError => s.recordError .check a
  | .protocolError => s.recordError .protocol a
  | .answer _ => s
  | .noAnswer => s
  | .echoFault => s

/-- A run may be the answer: an answer has begun, or the window is still open and it begins with this run
(log 18). -/
def Phase.awaitsAnswer : Phase → Bool
  | .windowOpen | .receiving => true
  | .sending | .decided _ => false

/-- An answer's run is taken whole and decided; the turnaround gap is counted from its end (R4, R11 to R13). -/
def State.takeAnswer (s : State) (run : List RxOctet) : State :=
  match s.lineScheduler.exchange with
  | none => s
  | some x =>
    if x.phase.awaitsAnswer then
      let o := s.decideRun x run
      ((s.setPhase (.decided o)).noteLineError x.station o).setGap false
    else s

/-- The decided outcome is taken (R66). In STOPPING the line moves to OFF in the same change, with LINE latched
(R142). -/
def State.takeOutcome (s : State) : State :=
  match s.lineScheduler.exchange with
  | none => s
  | some x =>
    match x.phase with
    | .decided o =>
      let s1 := s.settle x o
      if s.lineEngine.state = .stopping then s1.moveLineLatching .off else s1
    | .sending | .windowOpen | .receiving => s

/-! ## DE and TXD (R22) -/

/-- The frame that is going out, if one is. -/
def State.frameOut (s : State) : Option (List Octet) :=
  match s.lineScheduler.exchange with
  | some x => if x.phase = .sending then some x.frame else none
  | none => none

/-- DE: asserted in STARTING, and in RUNNING and STOPPING while a frame goes out (R22). -/
def State.de (s : State) : Bool :=
  match s.lineEngine.state with
  | .starting => true
  | .running | .stopping => s.frameOut.isSome
  | .off | .fault => false

/-- TXD at bit `i` of the frame going out; marking (true) whenever no bit is being sent (R1, R22). -/
def State.txd (s : State) (i : Nat) : Bool :=
  match s.lineEngine.state with
  | .running | .stopping => (frameBits (s.frameOut.getD [])).getD i true
  | .starting | .off | .fault => true

end Sys2Proof.Machine
end

