-- ==== Sys2Proof/Machine/Scheduler.lean ====
section
/-! DEFINITION. Eligibility, the poll ring and the Line Scheduler's choice (03_dispatch_and_the_line_scheduler, 3.2 and
3.3; 04_stations_and_polling, 4.3). -/

namespace Sys2Proof.Machine

/-! ## Eligibility (R54 to R56) -/

/-- UNKNOWN or ACTIVE: the states in which a station is served (4.2). -/
def StationState.served : StationState → Bool
  | .unknown | .active => true
  | .disabled | .offline => false

/-- No slot of the queue that names the same station was posted before this one, in either list (R55). -/
def State.standsFirst (s : State) (n : SlotNo) : Bool :=
  (queuedSlots s.dispatchQueue).find? (fun m => (s.slot m).station = (s.slot n).station) = some n

/-- A slot that may be chosen for a REQUEST (R54). -/
def State.eligible (s : State) (n : SlotNo) : Bool :=
  let e := s.station (s.slot n).address
  (s.slot n).state = .queued && e.state.served && e.holdRemaining = 0 && e.outstanding < e.creditLimit
    && s.standsFirst n

/-- The eligible slot nearest the head of the urgent list, or else of the normal list (R56). -/
def State.pickRequest (s : State) : Option SlotNo :=
  ((levelList .urgent s.dispatchQueue).find? s.eligible).or
    ((levelList .normal s.dispatchQueue).find? s.eligible)

/-! ## The poll ring (R62, R79) -/

/-- The station is in the poll ring (R79). -/
def Station.inRing (e : Station) : Bool :=
  e.state.served && (e.pollMode ≠ .off || 0 < e.outstanding || e.ack ≠ .noAck)

/-- The addresses in the order of the search: from the one after the pointer up to 31, then from 1 up to the pointer
(R62). -/
def pollOrder (pointer : Address) : List Address :=
  (allStations.filter fun a => pointer < a) ++ (allStations.filter fun a => a ≤ pointer)

/-- The station the next POLL goes to (R62). -/
def State.pickPoll (s : State) : Option Address :=
  (pollOrder s.stationTable.rotation).find? fun a => (s.station a).inRing

/-! ## The exchanges (R60 to R63) -/

/-- The exchange is in flight from the choice on, its frame fixed (R6, R57, R65). -/
def State.launch (s : State) (x : Exchange) : State := s.onScheduler fun l => { l with exchange := some x }

/-- CANCEL for the slot at the head of the Cancel List: its cancel-in-flight flag is set and it leaves the list (R41,
R60). -/
def State.sendCancel (s : State) (n : SlotNo) : State :=
  let a := (s.slot n).address
  (((s.modifySlot n fun r => { r with cancelInFlight := true }).onCancelList fun l => l.filter (· ≠ n)).launch
    { kind := .cancel n, station := a, frame := cancelFrame a n, phase := .sending })

/-- REQUEST for a slot: it becomes SENDING and its place is held open (R36, R61). R is set when attempts is above 0
(R25). -/
def State.sendRequest (s : State) (n : SlotNo) : State :=
  let r := s.slot n
  (((s.modifySlot n fun r => { r with state := .sending }).onDispatch (holdPlace n)).launch
    { kind := .request n
      station := r.address
      frame := requestFrame r.address n (0 < r.attempts) (payloadOctets r.request r.requestLength.toNat)
      phase := .sending })

/-- The kind of a POLL to a station (R63): ANY with the lowest free record reserved, where the poll mode is
replies-and-events and a record is free; otherwise REPLY-ONLY. -/
def State.pollKindFor (s : State) (a : Address) : PollKind :=
  if (s.station a).pollMode = .repliesAndEvents then
    match s.eventPool.lowestFree with
    | some r => .any r
    | none => .replyOnly
  else .replyOnly

/-- A record reserved for a POLL of kind ANY leaves the free list (R126). -/
def State.reserve (s : State) : PollKind → State
  | .replyOnly => s
  | .any r => s.onPool (EventPool.takeFree r)

/-- POLL to a station, carrying its pending acknowledgement (R62, R63); the rotation pointer is set to it. -/
def State.sendPoll (s : State) (a : Address) : State :=
  let k := s.pollKindFor a
  let ack := (s.station a).ack
  ((s.reserve k).onStations fun t => { t with rotation := a }).launch
    { kind := .poll k ack, station := a, frame := pollFrame a k ack, phase := .sending }

/-- The burst counter is set (R59). -/
def State.setBurst (s : State) (n : Nat) : State := s.onScheduler fun l => { l with burst := n }

/-! ## The choice (R57, R58) -/

/-- The conditions under which the Line Scheduler makes a choice (R57). -/
def State.mayChoose (s : State) : Bool :=
  s.lineEngine.state = .running && s.lineScheduler.exchange.isNone && s.lineEngine.gapPassed

/-- What the Line Scheduler chooses (R58): `none` leaves the line idle. -/
inductive Choice where
  | cancel (slot : SlotNo)
  | requestInBurst (slot : SlotNo)
  | poll (station : Address)
  | requestEmptyRing (slot : SlotNo)
  deriving DecidableEq, Repr

/-- The first step of R58 that applies. -/
def State.choice (s : State) : Option Choice :=
  match s.cancelList with
  | n :: _ => some (.cancel n)
  | [] =>
    match (if s.lineScheduler.burst < s.lineScheduler.burstLimit then s.pickRequest else none) with
    | some n => some (.requestInBurst n)
    | none =>
      match s.pickPoll with
      | some a => some (.poll a)
      | none => s.pickRequest.map .requestEmptyRing

/-- The chosen exchange starts in the same event as its choice (R57), the burst counter moving as R58 says. -/
def State.carryOut (s : State) : Choice → State
  | .cancel n => s.sendCancel n
  | .requestInBurst n => (s.setBurst (s.lineScheduler.burst + 1)).sendRequest n
  | .poll a => (s.setBurst 0).sendPoll a
  | .requestEmptyRing n => (s.setBurst 0).sendRequest n

/-- The Line Scheduler's choice, made only under the conditions of R57. -/
def State.choose (s : State) : State :=
  if s.mayChoose then
    match s.choice with
    | some c => s.carryOut c
    | none => s
  else s

end Sys2Proof.Machine
end

