-- ==== Sys2Proof/Machine/Timers.lean ====
section
/-! DEFINITION. The millisecond step of the line clock, and the expiries that follow it (R148; R96, R87, R156; logs 11
to 14). -/

namespace Sys2Proof.Machine

/-! ## Expiries -/

/-- The slot's deadline has run out and its expiry has still to be taken: WAITING, with a deadline, and nothing left of
it (R27, R96). -/
def Slot.deadlineDue (r : Slot) : Bool := r.state = .waiting && r.deadline ≠ 0 && r.deadlineRemaining = 0

/-- The slots whose expiry has still to be taken, in increasing order of slot number (R96). -/
def State.expiredSlots (s : State) : List SlotNo := allSlots.filter fun n => (s.slot n).deadlineDue

/-- The slot after its deadline's expiry (R40). -/
def Slot.expired (r : Slot) : Slot := { r with state := .cancelling, deadlineExpired := true }

/-- The slots whose deadline has run out become CANCELLING with deadline-expired set, and join the tail of the Cancel
List in increasing order of slot number, as one event (R96). -/
def State.expireDeadlines (s : State) : State :=
  let due := s.expiredSlots
  (due.foldl (fun s n => s.modifySlot n Slot.expired) s).onCancelList (· ++ due)

/-- A hold whose last millisecond has passed is at 0 (R87). -/
def Station.expireHold (e : Station) : Station :=
  if e.holdDue then { e with holdRemaining := 0, holdDue := false } else e

/-- The holds that are due expire; nothing but the hold remaining changes (R87). -/
def State.expireHolds (s : State) : State := s.onStations (StationTable.mapEntries Station.expireHold)

/-! ## The step (R148) -/

/-- A WAITING slot's count falls by one if it is above 0 (R96). -/
def Slot.countDown (r : Slot) : Slot :=
  if r.state = .waiting && r.deadlineRemaining ≠ 0 then { r with deadlineRemaining := r.deadlineRemaining - 1 }
  else r

/-- A running hold falls by one; its fall from 1 to 0 is its expiry, which is due from this step on (R87; log 12). -/
def Station.countDown (e : Station) : Station :=
  if e.holdRemaining = 0 then e
  else if e.holdRemaining = 1 then { e with holdDue := true }
  else { e with holdRemaining := e.holdRemaining - 1 }

/-- Each block that counts by the line clock takes the step for its own state, and the clock steps, wrapping from 65535
to 0 (R148). -/
def State.countDown (s : State) : State :=
  (((s.onEngine fun l => { l with clock := l.clock + 1 }).onSlots fun t =>
    { t with slots := Vector.ofFn fun n => Slot.countDown t.slots[n] }).onStations
    (StationTable.mapEntries Station.countDown)).onCompletion CompletionUnit.countDown

/-- The expiries that an earlier step has brought and that have not been taken yet (log 14). -/
def State.expireAll (s : State) : State :=
  (s.expireDeadlines.expireHolds).onCompletion CompletionUnit.expire

/-- The millisecond step. While RESET is asserted the clock stands at 0 (R148). An expiry of the step before that is
still waiting is taken first (log 14). -/
def State.stepClock (s : State) : State := if s.pins.reset then s else s.expireAll.countDown

end Sys2Proof.Machine
end

