-- ==== Sys2Proof/Machine/Resets.lean ====
section
/-! DEFINITION. The initialisation sweep and the resets (10_the_host_port, 10.4 and 10.5). -/

namespace Sys2Proof.Machine

/-- The Station Table's starting state with the entries as the sweep leaves them; the registers STATION LIMITS and
HOLDOFF stand (R91). -/
def StationTable.sweep (t : StationTable) : StationTable :=
  { t with entries := Vector.ofFn Station.initial, rotation := 0, changes := 0 }

/-- The completion queue empty, the timer stopped, COMPLETE and ALERT clear; the other causes and the registers stand
(R159, R167). -/
def CompletionUnit.sweep (u : CompletionUnit) : CompletionUnit :=
  { u with queue := [], timer := none, causes := { u.causes with complete := false, alert := false } }

/-- The start of the initialisation sweep (R173): INIT is 1 and every block takes its starting state. The words the
sweep then writes are written here, since no access sees table space before the sweep ends (R169, R170; log 10). No
exchange is in flight: the line is OFF throughout a sweep (R173). -/
def State.startSweep (s : State) : State :=
  { s with
    hostPort := { s.hostPort with sweep := true }
    slotTable := SlotTable.initial
    dispatchQueue := []
    cancelList := []
    stationTable := s.stationTable.sweep
    classifier := { s.classifier with table := MatchEntry.initialTable }
    eventPool := EventPool.initial
    completionUnit := s.completionUnit.sweep
    lineScheduler := { s.lineScheduler with burst := 0, exchange := none } }

/-- Every register at its reset value, the line OFF, no exchange in flight, and every block in its starting state. The
inputs' levels, the word last driven on D0–D15 and the commands that wait are not the 3120's to reset (R150, R171,
R172). -/
def State.resetWith (s : State) (cause : ResetCause) (sweep : Bool) : State :=
  { State.reset with
    pending := s.pending
    pins := s.pins
    hostPort := { State.reset.hostPort with resetCause := cause, sweep := sweep } }

/-- The assertion of RESET (R171): held in reset, no sweep running. -/
def State.assertReset (s : State) : State :=
  (s.onPins fun p => { p with reset := true }).resetWith .pin false

/-- The release of RESET (R171): the sweep starts. -/
def State.releaseReset (s : State) : State :=
  if s.pins.reset then (s.onPins fun p => { p with reset := false }).startSweep else s

/-- Power-on (R171): held in reset until CLK and the supply are steady, then as the release of RESET; a board that still
holds RESET asserted extends the same reset. -/
def State.powerOn (s : State) : State :=
  if s.pins.reset then s.assertReset else s.assertReset.releaseReset

/-- A chip reset (R172): the effects of a pin reset at the moment the write is taken, with the reset cause chip, and the
sweep started in the same event. -/
def State.chipReset (s : State) : State := s.resetWith .chip true

/-- The end of the sweep (R173): INIT is 0, INIT_DONE is latched, and with RUN holding 1 the OFF line enters STARTING
(R138). -/
def State.endSweep (s : State) : State :=
  if s.hostPort.sweep then
    let s1 := (s.onHost fun h => { h with sweep := false }).onCompletion CompletionUnit.latchInitDone
    if s.hostPort.run && s.lineEngine.state = .off then s1.enterStarting else s1
  else s

end Sys2Proof.Machine
end

