-- ==== Sys2Proof/Machine/Commands.lean ====
section
/-! DEFINITION. The command mechanism (10_the_host_port, 10.2) and what each of the eleven commands does
(02_transaction_slots, 2.3 to 2.6; 04_stations_and_polling; 07, 7.5; R167). -/

namespace Sys2Proof.Machine

/-! ## The mechanism (R165, R166) -/

/-- What a command comes to: DONE with a value and the state it leaves, or another result, with nothing changed. -/
inductive Verdict where
  | done (value : Word) (after : State)
  | fails (result : Result)
  deriving DecidableEq, Repr

/-- A command whose operand is out of range gives BAD_OPERAND (R166, step 3). -/
def withOperand {α : Type} (operand : Option α) (body : α → Verdict) : Verdict :=
  match operand with
  | some x => body x
  | none => .fails .badOperand

/-- A write of a command's code to COMMAND (R165, R166): the word is stored; during the sweep the result is BUSY;
otherwise the command is carried out, COMMAND RESULT receives its result, and COMMAND ARG the value of a DONE result.
While RESET is asserted the write has no effect (R171). -/
def State.takeCommand (s : State) (code : Word) (body : State → Verdict) : State :=
  if s.pins.reset then s
  else if s.hostPort.sweep then s.onHost fun h => { h with command := code, result := .busy }
  else
    match body s with
    | .done v s' => s'.onHost fun h => { h with command := code, result := .done, commandArg := v }
    | .fails r => s.onHost fun h => { h with command := code, result := r }

/-! ## Slot commands -/

/-- The 3120 fields at their starting values, in state OWNED; the host fields stand (R32). -/
def Slot.allocated (r : Slot) : Slot :=
  { Slot.zero with
    state := .owned, station := r.station, priority := r.priority, retryLimit := r.retryLimit,
    deadline := r.deadline, requestLength := r.requestLength, request := r.request }

/-- ALLOCATE (R32): the lowest-numbered FREE slot becomes OWNED; NONE when no slot is FREE. -/
def State.allocate (s : State) : Verdict :=
  match allSlots.find? fun n => (s.slot n).state = .free with
  | some n => .done (BitVec.ofNat 16 n.val) (s.modifySlot n Slot.allocated)
  | none => .fails .nothing

/-- The tests of POST on a slot, in the order of R33; `none` when all pass. -/
def State.postRefusal (s : State) (n : SlotNo) : Option Result :=
  let r := s.slot n
  if r.state ≠ .owned then some .wrongState
  else if ¬ (1 ≤ r.station.toNat ∧ r.station.toNat ≤ 31) then some (.badRecord .station)
  else if 1 < r.priority.toNat then some (.badRecord .priority)
  else if 7 < r.retryLimit.toNat then some (.badRecord .retryLimit)
  else if 64 < r.requestLength.toNat then some (.badRecord .requestLength)
  else if !(s.station r.address).state.served then some .stationUnavailable
  else if (s.station r.address).quarantine.getLsbD n.val then some .quarantined
  else none

/-- An accepted POST (R34): the slot becomes QUEUED with the post counter as its post number and deadline remaining at
its deadline, and joins the tail of its level; the counter steps on, wrapping (R31). -/
def State.enqueue (s : State) (n : SlotNo) : State :=
  ((s.modifySlot n fun r =>
      { r with state := .queued, postNumber := s.slotTable.postCounter, deadlineRemaining := r.deadline }).onSlots
    fun t => { t with postCounter := t.postCounter + 1 }).onDispatch
    (joinTail (levelOf (s.slot n).priority) n)

/-- POST (R33, R34). -/
def State.post (s : State) (n : SlotNo) : Verdict :=
  match s.postRefusal n with
  | some r => .fails r
  | none => .done s.slotTable.postCounter (s.enqueue n)

/-- RELEASE (R35): an OWNED slot becomes FREE, its record kept. -/
def State.release (s : State) (n : SlotNo) : Verdict :=
  if (s.slot n).state = .owned then
    .done (BitVec.ofNat 16 n.val) (s.modifySlot n fun r => { r with state := .free })
  else .fails .wrongState

/-- RETIRE (R46): a DONE slot becomes FREE and leaves the completion queue, its record kept. -/
def State.retire (s : State) (n : SlotNo) : Verdict :=
  if (s.slot n).state = .done then
    .done (BitVec.ofNat 16 n.val)
      ((s.modifySlot n fun r => { r with state := .free }).onCompletion (CompletionUnit.leave n))
  else .fails .wrongState

/-- The value of a DONE result of CANCEL: the slot's state after the command (2.5). -/
def stateValue (st : SlotState) : Word := BitVec.ofNat 16 st.code

/-- CANCEL of a WAITING slot (R44): CANCELLING, at the tail of the Cancel List; its deadline-remaining count stops. -/
def State.cancelWaiting (s : State) (n : SlotNo) : State :=
  (s.modifySlot n fun r => { r with state := .cancelling, hostCancel := true }).onCancelList (· ++ [n])

/-- CANCEL of a CANCELLING slot (R45): BUSY with its cancel in flight, ALREADY with the line RUNNING, and otherwise the
slot is ABANDONED. -/
def State.cancelCancelling (s : State) (n : SlotNo) : Verdict :=
  if (s.slot n).cancelInFlight then .fails .busy
  else if s.lineEngine.state = .running then .fails .already
  else .done (stateValue .done) (s.completeSlot n .abandoned 0 [])

/-- CANCEL (R43 to R45). -/
def State.cancel (s : State) (n : SlotNo) : Verdict :=
  match (s.slot n).state with
  | .free | .owned | .done => .fails .wrongState
  | .queued => .done (stateValue .done) (s.completeSlot n .cancelled 0 [])
  | .sending => .done (stateValue .sending) (s.modifySlot n fun r => { r with hostCancel := true })
  | .waiting => .done (stateValue .cancelling) (s.cancelWaiting n)
  | .cancelling => s.cancelCancelling n

/-! ## Station commands -/

/-- The value of a DONE result of a station command: the station's state code (11.3). -/
def stationValue (st : StationState) : Word := BitVec.ofNat 16 st.code

/-- STATION ENABLE (R76): DISABLED becomes UNKNOWN; the change set stands (R178). -/
def State.stationEnable (s : State) (a : Address) : Verdict :=
  if (s.station a).state = .disabled then
    .done (stationValue .unknown) (s.modifyStation a fun e => { e with state := .unknown })
  else .fails .wrongState

/-- Some slot that names the station is QUEUED, SENDING, WAITING or CANCELLING (R77). -/
def State.hasLiveSlot (s : State) (a : Address) : Bool :=
  allSlots.any fun n => (s.slot n).names a && (s.slot n).state.live

/-- The entry after STATION DISABLE (R77). -/
def Station.disable (e : Station) : Station :=
  { e with state := .disabled, noAnswer := 0, holdRemaining := 0, holdDue := false, ack := .noAck }

/-- STATION DISABLE (R77). -/
def State.stationDisable (s : State) (a : Address) : Verdict :=
  if (s.station a).state = .disabled then .fails .wrongState
  else if s.hasLiveSlot a then .fails .busy
  else .done (stationValue .disabled) (s.modifyStation a Station.disable)

/-- The entry after REVIVE (R86). -/
def Station.revive (e : Station) : Station :=
  { e with state := .unknown, quarantine := 0, noAnswer := 0, ack := .noAck }

/-- REVIVE (R86). -/
def State.revive (s : State) (a : Address) : Verdict :=
  if (s.station a).state = .offline then .done (stationValue .unknown) (s.modifyStation a Station.revive)
  else .fails .wrongState

/-- UNQUARANTINE (R88). -/
def State.unquarantine (s : State) (a : Address) (t : SlotNo) : Verdict :=
  if (s.station a).quarantine.getLsbD t.val then
    .done (BitVec.ofNat 16 t.val)
      (s.modifyStation a fun e => { e with quarantine := e.quarantine &&& ~~~memberBit t })
  else .fails .nothing

/-! ## EVENT FREE and INITIALISE -/

/-- EVENT FREE (R131): the record at the head of the queue joins the free list, its words unchanged; NONE for an empty
queue. -/
def State.eventFree (s : State) (q : EventQueue) : Verdict :=
  match s.eventPool.queueOf q with
  | r :: rest =>
    .done (BitVec.ofNat 16 r.val) (s.onPool fun p => (p.setQueue q rest).giveFree r)
  | [] => .fails .nothing

/-- INITIALISE (R167): with the line OFF the sweep starts; otherwise WRONG_STATE. -/
def State.initialise (s : State) : Verdict :=
  if s.lineEngine.state = .off then .done 0 s.startSweep else .fails .wrongState

/-! ## The eleven commands with their operands in COMMAND ARG (11.3) -/

def State.commandAllocate (s : State) : Verdict := s.allocate
def State.commandPost (s : State) : Verdict := withOperand (slotOperand s.hostPort.commandArg) s.post
def State.commandRelease (s : State) : Verdict := withOperand (slotOperand s.hostPort.commandArg) s.release
def State.commandRetire (s : State) : Verdict := withOperand (slotOperand s.hostPort.commandArg) s.retire
def State.commandCancel (s : State) : Verdict := withOperand (slotOperand s.hostPort.commandArg) s.cancel
def State.commandStationEnable (s : State) : Verdict :=
  withOperand (stationOperand s.hostPort.commandArg) s.stationEnable
def State.commandStationDisable (s : State) : Verdict :=
  withOperand (stationOperand s.hostPort.commandArg) s.stationDisable
def State.commandRevive (s : State) : Verdict := withOperand (stationOperand s.hostPort.commandArg) s.revive

/-- For UNQUARANTINE the station operand is tested before the tag (R166). -/
def State.commandUnquarantine (s : State) : Verdict :=
  withOperand (stationOperand s.hostPort.commandArg) fun a =>
    withOperand (tagOperand s.hostPort.commandArg) fun t => s.unquarantine a t

def State.commandEventFree (s : State) : Verdict := withOperand (queueOperand s.hostPort.commandArg) s.eventFree
def State.commandInitialise (s : State) : Verdict := s.initialise

/-- A code that names no command gives BAD_OPERAND (R166, step 2). -/
def State.commandUnknown (_ : State) : Verdict := .fails .badOperand

/-- What the word written to COMMAND orders: the whole word is the command code (11.3). -/
def commandBody (code : Word) : State → Verdict :=
  match code.toNat with
  | 1 => State.commandAllocate
  | 2 => State.commandPost
  | 3 => State.commandRelease
  | 4 => State.commandRetire
  | 5 => State.commandCancel
  | 6 => State.commandStationEnable
  | 7 => State.commandStationDisable
  | 8 => State.commandRevive
  | 9 => State.commandUnquarantine
  | 10 => State.commandEventFree
  | 11 => State.commandInitialise
  | _ => State.commandUnknown

/-- A write of COMMAND, whatever its word. -/
def State.writeCommand (s : State) (code : Word) : State := s.takeCommand code (commandBody code)

end Sys2Proof.Machine
end

