-- ==== Sys2Proof/Machine/HostPort.lean ====
section
/-! DEFINITION. The register window: what each register reads and what a write of it does (10_the_host_port, 10.1;
11_layouts_registers_table_space_and_frames, 11.1 and 11.2). -/

namespace Sys2Proof.Machine

/-! ## Reads (R162) -/

/-- STATUS (11.2). -/
def State.statusWord (s : State) : Word :=
  putField 0 3 s.lineEngine.state.code ||| putBit 3 s.hostPort.sweep ||| putBit 4 s.hostPort.refusedFlag
    ||| putField 5 1 s.hostPort.resetCause.code

/-- COMPLETION HEAD, EVENT HEAD A and EVENT HEAD B: the number at the head, FFFFh for an empty queue (R132, R153). -/
def headWord {k : Nat} (l : List (Fin k)) : Word :=
  match l with
  | n :: _ => BitVec.ofNat 16 n.val
  | [] => 0xFFFF

/-- POOL STATUS (R132, 11.2). -/
def State.poolStatusWord (s : State) : Word :=
  putField 0 5 s.eventPool.free.length ||| putBit 5 s.reserved.isSome ||| putField 6 5 s.eventPool.queueA.length
    ||| putField 11 5 s.eventPool.queueB.length

/-- LINE ERROR RECORD, with the low nine bits of the time (R176). -/
def ErrorRecord.word (e : ErrorRecord) : Word :=
  putField 0 9 e.time.toNat ||| putField 9 5 e.station.val ||| putField 14 2 e.kind.code

/-- STRAY RECORD, with the low six bits of the time (R176). -/
def StrayRecord.word (r : StrayRecord) : Word :=
  putField 0 6 r.time.toNat ||| putField 6 5 r.tag.val ||| putField 11 5 r.station.val

/-- What a register reads (11.1, 11.2). The bit of STATION CHANGES LOW for address 0 reads 0 (R89). WINDOW DATA reads the word at the window address, or 0 where the read is
refused; its read also steps the window address (`State.readWindow`). -/
def State.registerWord (s : State) : Register → Word
  | .ident => Config.ident
  | .control => putBit 0 s.hostPort.run ||| putBit 1 s.completionUnit.interruptEnable
  | .status => s.statusWord
  | .cause => s.causeWord
  | .causeEnable => s.completionUnit.enables.setWidth 16
  | .command => s.hostPort.command
  | .commandArg => s.hostPort.commandArg
  | .commandResult => s.hostPort.result.word
  | .completionHead => headWord s.completionUnit.queue
  | .completionCount => BitVec.ofNat 16 s.completionUnit.queue.length
  | .eventHeadA => headWord s.eventPool.queueA
  | .eventHeadB => headWord s.eventPool.queueB
  | .poolStatus => s.poolStatusWord
  | .stationChangesLow => s.stationTable.changes.extractLsb' 0 16 &&& 0xFFFE
  | .stationChangesHigh => s.stationTable.changes.extractLsb' 16 16
  | .windowAddress => s.hostPort.windowAddress.setWidth 16
  | .windowData => s.windowWord.getD 0
  | .lineRate => putField 0 3 s.lineEngine.rate.code
  | .answerWindow => putField 0 10 s.lineEngine.answerWindow
  | .stationLimits => putField 0 4 s.stationTable.noAnswerLimit ||| putField 8 4 s.lineScheduler.burstLimit
  | .holdoff => BitVec.ofNat 16 s.stationTable.holdoff
  | .coalesce => putField 0 6 s.completionUnit.threshold ||| putField 8 8 s.completionUnit.holdoff
  | .lineClock => s.lineEngine.clock
  | .lineErrorRecord => s.lineEngine.error.word
  | .strayRecord => s.strayRecord.word
  | .classifierSetup => putBit 0 s.classifier.enable ||| putField 4 2 s.classifier.defaultAction.code

/-- What the host reads at A5…A1 (R162): the register's contents; 0 at the empty offsets; 0 while RESET is asserted
(R171). -/
def State.readRegister (s : State) (select : BitVec 5) : Word :=
  if s.pins.reset then 0
  else
    match registerAt select with
    | some r => s.registerWord r
    | none => 0

/-! ## Writes (R163) -/

/-- A write of CONTROL (R137, R172): with the chip-reset bit set, a chip reset; otherwise RUN and the interrupt enable
are stored and the Line Engine acts on the RUN value. -/
def State.writeControl (s : State) (w : Word) : State :=
  if w.getLsbD 2 then s.chipReset
  else
    let s1 := (s.onHost fun h => { h with run := w.getLsbD 0 }).onCompletion fun u =>
      { u with interruptEnable := w.getLsbD 1 }
    if w.getLsbD 0 then s1.runOne else s1.runZero

/-- A write of STATUS: a one at the REFUSED flag clears it; the other bits have no effect (R164). -/
def State.writeStatus (s : State) (w : Word) : State :=
  s.onHost fun h => { h with refusedFlag := h.refusedFlag && !w.getLsbD 4 }

/-- A write of STATION CHANGES LOW or HIGH removes the addresses written as ones (R89). -/
def State.clearChanges (s : State) (high : Bool) (w : Word) : State :=
  s.onStations fun t =>
    { t with changes := t.changes &&& ~~~(if high then w.setWidth 32 <<< 16 else w.setWidth 32) }

/-- A tested write: accepted whole, or refused with nothing changed but the report (R163, R164). -/
def State.tested (s : State) (ok : Bool) (accepted : State) : State := if ok then accepted else s.reportRefusal

/-- A write of LINE RATE (R149): accepted in OFF with a code that names a rate. -/
def State.writeLineRate (s : State) (w : Word) : State :=
  match Rate.ofCode (fieldOf w 0 3) with
  | some r => s.tested (s.lineEngine.state = .off) (s.onEngine fun l => { l with rate := r })
  | none => s.reportRefusal

/-- A write of ANSWER WINDOW (R149): accepted in OFF with 32–1023. -/
def State.writeAnswerWindow (s : State) (w : Word) : State :=
  s.tested (s.lineEngine.state = .off && 32 ≤ fieldOf w 0 10)
    (s.onEngine fun l => { l with answerWindow := fieldOf w 0 10 })

/-- A write of STATION LIMITS (R59, R84): both fields must be legal. -/
def State.writeStationLimits (s : State) (w : Word) : State :=
  s.tested (1 ≤ fieldOf w 0 4 && 1 ≤ fieldOf w 8 4 && fieldOf w 8 4 ≤ 8)
    ((s.onStations fun t => { t with noAnswerLimit := fieldOf w 0 4 }).onScheduler fun l =>
      { l with burstLimit := fieldOf w 8 4 })

/-- A write of HOLDOFF (R87): the whole word must be 1–255. -/
def State.writeHoldoff (s : State) (w : Word) : State :=
  s.tested (1 ≤ w.toNat && w.toNat ≤ 255) (s.onStations fun t => { t with holdoff := w.toNat })

/-- A write of COALESCE (R154): the threshold must be 1–32. -/
def State.writeCoalesce (s : State) (w : Word) : State :=
  s.tested (1 ≤ fieldOf w 0 6 && fieldOf w 0 6 ≤ 32)
    (s.onCompletion (CompletionUnit.setCoalesce (fieldOf w 0 6) (fieldOf w 8 8)))

/-- A write of CLASSIFIER SETUP (R111): the default action code must name an action. -/
def State.writeClassifierSetup (s : State) (w : Word) : State :=
  match Action.ofCode (fieldOf w 4 2) with
  | some a => s.onClassifier fun c => { c with enable := w.getLsbD 0, defaultAction := a }
  | none => s.reportRefusal

/-- What a write of each register does (R163). The read-only registers ignore it. -/
def State.writeNamed (s : State) (w : Word) : Register → State
  | .control => s.writeControl w
  | .status => s.writeStatus w
  | .cause => s.onCompletion (CompletionUnit.writeCause w)
  | .causeEnable => s.onCompletion fun u => { u with enables := w.setWidth 10 }
  | .command => s.writeCommand w
  | .commandArg => s.onHost fun h => { h with commandArg := w }
  | .stationChangesLow => s.clearChanges false w
  | .stationChangesHigh => s.clearChanges true w
  | .windowAddress => s.onHost fun h => { h with windowAddress := w.setWidth 12 }
  | .windowData => s.writeWindow w
  | .lineRate => s.writeLineRate w
  | .answerWindow => s.writeAnswerWindow w
  | .stationLimits => s.writeStationLimits w
  | .holdoff => s.writeHoldoff w
  | .coalesce => s.writeCoalesce w
  | .classifierSetup => s.writeClassifierSetup w
  | .ident | .commandResult | .completionHead | .completionCount | .eventHeadA | .eventHeadB | .poolStatus
  | .lineClock | .lineErrorRecord | .strayRecord => s

/-- While RESET is asserted the 3120 takes no access, and a write has no effect (R162, R171). -/
def State.access (s : State) (f : State → State) : State := if s.pins.reset then s else f s

/-- A write of the register at A5…A1 (R162, R163); the empty offsets ignore it. -/
def State.writeRegister (s : State) (select : BitVec 5) (w : Word) : State :=
  s.access fun s =>
    match registerAt select with
    | some r => s.writeNamed w r
    | none => s

end Sys2Proof.Machine
end

