-- ==== Sys2Proof/Machine/CommandWrites.lean ====
section
/-! DEFINITION. The twelve rows of COMMAND: each is the write of its code to COMMAND, with its operands in COMMAND
ARG (10_the_host_port, 10.2; 11.3; log 4). -/

namespace Sys2Proof.Machine

/-- ALLOCATE: COMMAND written with code 1 (R32). -/
def execAllocate (s : State) : Host.Outcome State Fault Refusal := .next (s.takeCommand 1 State.commandAllocate)

/-- POST: COMMAND written with code 2 (R33, R34). -/
def execPost (s : State) : Host.Outcome State Fault Refusal := .next (s.takeCommand 2 State.commandPost)

/-- RELEASE: COMMAND written with code 3 (R35). -/
def execRelease (s : State) : Host.Outcome State Fault Refusal := .next (s.takeCommand 3 State.commandRelease)

/-- RETIRE: COMMAND written with code 4 (R46). -/
def execRetire (s : State) : Host.Outcome State Fault Refusal := .next (s.takeCommand 4 State.commandRetire)

/-- CANCEL: COMMAND written with code 5 (R43 to R45). -/
def execCancel (s : State) : Host.Outcome State Fault Refusal := .next (s.takeCommand 5 State.commandCancel)

/-- STATION_ENABLE: COMMAND written with code 6 (R76). -/
def execStationEnable (s : State) : Host.Outcome State Fault Refusal := .next (s.takeCommand 6 State.commandStationEnable)

/-- STATION_DISABLE: COMMAND written with code 7 (R77). -/
def execStationDisable (s : State) : Host.Outcome State Fault Refusal := .next (s.takeCommand 7 State.commandStationDisable)

/-- REVIVE: COMMAND written with code 8 (R86). -/
def execRevive (s : State) : Host.Outcome State Fault Refusal := .next (s.takeCommand 8 State.commandRevive)

/-- UNQUARANTINE: COMMAND written with code 9 (R88). -/
def execUnquarantine (s : State) : Host.Outcome State Fault Refusal := .next (s.takeCommand 9 State.commandUnquarantine)

/-- EVENT_FREE: COMMAND written with code 10 (R131). -/
def execEventFree (s : State) : Host.Outcome State Fault Refusal := .next (s.takeCommand 10 State.commandEventFree)

/-- INITIALISE: COMMAND written with code 11 (R167). -/
def execInitialise (s : State) : Host.Outcome State Fault Refusal := .next (s.takeCommand 11 State.commandInitialise)

/-- UNKNOWN_COMMAND_CODE: COMMAND written with a code that names no command (R166). A code that does name one is that
command's write (log 6). -/
def execUnknownCommandCode (code : Word) (s : State) : Host.Outcome State Fault Refusal := .next (s.writeCommand code)

end Sys2Proof.Machine
end

