-- ==== Sys2Proof/Machine/LineEvents.lean ====
section
/-! DEFINITION. The rows of the line (01_the_split_reply_line; 03, 3.3 and 3.4; 08_line_control_and_line_faults). -/

namespace Sys2Proof.Machine

/-- SETTLE_END: the settle has passed with every sample marking (R139). -/
def execSettleEnd (s : State) : Host.Outcome State Fault Refusal := .next (s.endSettle)

/-- CONTENTION: a space sampled during the settle (R140). -/
def execContention (s : State) : Host.Outcome State Fault Refusal := .next (s.contend)

/-- LFAULT: the input takes a level, true when asserted (R145; log 8). -/
def execLfault (asserted : Bool) (s : State) : Host.Outcome State Fault Refusal := .next (s.setLfault asserted)

/-- TURNAROUND_GAP_END: 24 bit-times have passed since the end of the last frame (R4). -/
def execTurnaroundGapEnd (s : State) : Host.Outcome State Fault Refusal := .next (s.passGap)

/-- LINE_SCHEDULER_CHOICE: the choice of the next exchange (R57, R58). -/
def execLineSchedulerChoice (s : State) : Host.Outcome State Fault Refusal := .next (s.choose)

/-- FRAME_COMPLETELY_SENT: the frame's last stop bit has gone out with every echo matching (R9). -/
def execFrameCompletelySent (s : State) : Host.Outcome State Fault Refusal := .next (s.frameSent)

/-- ECHO_FAULT: an echoed bit differs from the bit sent (R14, R146). -/
def execEchoFault (bit : Nat) (s : State) : Host.Outcome State Fault Refusal := .next (s.echoMismatch bit)

/-- ANSWER_WINDOW_CLOSE: the window closes with no answer begun (R10). -/
def execAnswerWindowClose (s : State) : Host.Outcome State Fault Refusal := .next (s.closeWindow)

/-- ANSWER: an answer's run is taken whole and decided (R11 to R13). -/
def execAnswer (run : List RxOctet) (s : State) : Host.Outcome State Fault Refusal := .next (s.takeAnswer run)

/-- IGNORED_RUN: a run that begins while no answer window is open changes nothing (R10). -/
def execIgnoredRun (_run : List RxOctet) (s : State) : Host.Outcome State Fault Refusal := .next (s)

/-- OUTCOME_TAKEN: the Answer Handler takes the decided outcome (R66). -/
def execOutcomeTaken (s : State) : Host.Outcome State Fault Refusal := .next (s.takeOutcome)

/-- ANSWER_BEGINS: a start bit in the given bit-time of the answer window (R10; log 17). -/
def execAnswerBegins (bitTime : Nat) (s : State) : Host.Outcome State Fault Refusal := .next (s.beginAnswer bitTime)

end Sys2Proof.Machine
end

