-- ==== Sys2Proof/Machine/RegisterAccesses.lean ====
section
/-! DEFINITION. The rows of the other register accesses (10_the_host_port, 10.1 and 10.3). While RESET is asserted a write has
no effect and a read returns 0 (R171). -/

namespace Sys2Proof.Machine

/-- RUN_WRITE_1: CONTROL written with RUN 1 (R137, R138). -/
def execRunWrite1 (word : Word) (s : State) : Host.Outcome State Fault Refusal := .next (s.access (·.writeControl word))

/-- RUN_WRITE_0: CONTROL written with RUN 0 (R137, R141). -/
def execRunWrite0 (word : Word) (s : State) : Host.Outcome State Fault Refusal := .next (s.access (·.writeControl word))

/-- INTERRUPT_ENABLE_WRITE: CONTROL written for its interrupt enable; the RUN value the word carries is taken with it
(R137, R161). -/
def execInterruptEnableWrite (word : Word) (s : State) : Host.Outcome State Fault Refusal := .next (s.access (·.writeControl word))

/-- CHIP_RESET: CONTROL written with the chip-reset bit set (R172). -/
def execChipReset (word : Word) (s : State) : Host.Outcome State Fault Refusal := .next (s.access (·.writeControl word))

/-- CAUSE_WRITE: a write of CAUSE (R157, R158). -/
def execCauseWrite (word : Word) (s : State) : Host.Outcome State Fault Refusal := .next (s.access (·.onCompletion (CompletionUnit.writeCause word)))

/-- REFUSED_FLAG_CLEAR: a write of STATUS (R164). -/
def execRefusedFlagClear (word : Word) (s : State) : Host.Outcome State Fault Refusal := .next (s.access (·.writeStatus word))

/-- STATION_CHANGES_WRITE: a write of STATION CHANGES HIGH or LOW (R89). -/
def execStationChangesWrite (high : Bool) (word : Word) (s : State) : Host.Outcome State Fault Refusal := .next (s.access (·.clearChanges high word))

/-- COALESCE_WRITE: a tested write of COALESCE (R154). -/
def execCoalesceWrite (word : Word) (s : State) : Host.Outcome State Fault Refusal := .next (s.access (·.writeCoalesce word))

/-- REGISTER_WRITE: a write of the register at A5…A1 (R162, R163). -/
def execRegisterWrite (select : BitVec 5) (word : Word) (s : State) : Host.Outcome State Fault Refusal := .next (s.writeRegister select word)

/-- WINDOW_DATA_READ: a read of WINDOW DATA (R168, R169). -/
def execWindowDataRead (s : State) : Host.Outcome State Fault Refusal := .next (s.readWindow)

/-- WINDOW_DATA_WRITE: a write of WINDOW DATA (R168, R170). -/
def execWindowDataWrite (word : Word) (s : State) : Host.Outcome State Fault Refusal := .next (s.access (·.writeWindow word))

end Sys2Proof.Machine
end

