-- ==== Sys2Proof/Machine/ResetEvents.lean ====
section
/-! DEFINITION. The rows of the resets and the sweep (10_the_host_port, 10.4 and 10.5). -/

namespace Sys2Proof.Machine

/-- PIN_RESET: the assertion of RESET (R171). -/
def execPinReset (s : State) : Host.Outcome State Fault Refusal := .next (s.assertReset)

/-- RESET_RELEASE: the release of RESET, which starts the sweep (R171, R173). -/
def execResetRelease (s : State) : Host.Outcome State Fault Refusal := .next (s.releaseReset)

/-- POWER_ON: power-on, which ends as the release of RESET (R171). -/
def execPowerOn (s : State) : Host.Outcome State Fault Refusal := .next (s.powerOn)

/-- SWEEP_END: the end of the initialisation sweep (R173). -/
def execSweepEnd (s : State) : Host.Outcome State Fault Refusal := .next (s.endSweep)

end Sys2Proof.Machine
end

