-- ==== Sys2Proof/Machine/TimerEvents.lean ====
section
/-! DEFINITION. The rows of the timers (R87, R96, R148, R156). -/

namespace Sys2Proof.Machine

/-- LINE_CLOCK_STEP: the millisecond step of the line clock (R148). -/
def execLineClockStep (s : State) : Host.Outcome State Fault Refusal := .next (s.stepClock)

/-- DEADLINE_EXPIRY: the deadlines that have run out expire together (R96). -/
def execDeadlineExpiry (s : State) : Host.Outcome State Fault Refusal := .next (s.expireDeadlines)

/-- HOLD_EXPIRY: the holds that have run out expire (R87). -/
def execHoldExpiry (s : State) : Host.Outcome State Fault Refusal := .next (s.expireHolds)

/-- COALESCING_TIMER_EXPIRY: the coalescing timer, at 0, latches COMPLETE and stops (R156). -/
def execCoalescingTimerExpiry (s : State) : Host.Outcome State Fault Refusal := .next (s.onCompletion CompletionUnit.expire)

end Sys2Proof.Machine
end

