-- ==== Sys2Proof/Machine/Dispatch.lean ====
section
/-! DEFINITION. The meaning of every command: one arm for each row of spec/opcode_table.json, in its order. -/

namespace Sys2Proof.Machine

def exec (i : Instr) (s : State) : Host.Outcome State Fault Refusal :=
  match i with
  | .allocate => Sys2Proof.Machine.execAllocate s
  | .post => Sys2Proof.Machine.execPost s
  | .release => Sys2Proof.Machine.execRelease s
  | .retire => Sys2Proof.Machine.execRetire s
  | .cancel => Sys2Proof.Machine.execCancel s
  | .stationEnable => Sys2Proof.Machine.execStationEnable s
  | .stationDisable => Sys2Proof.Machine.execStationDisable s
  | .revive => Sys2Proof.Machine.execRevive s
  | .unquarantine => Sys2Proof.Machine.execUnquarantine s
  | .eventFree => Sys2Proof.Machine.execEventFree s
  | .initialise => Sys2Proof.Machine.execInitialise s
  | .unknownCommandCode code => Sys2Proof.Machine.execUnknownCommandCode code s
  | .runWrite1 word => Sys2Proof.Machine.execRunWrite1 word s
  | .runWrite0 word => Sys2Proof.Machine.execRunWrite0 word s
  | .interruptEnableWrite word => Sys2Proof.Machine.execInterruptEnableWrite word s
  | .chipReset word => Sys2Proof.Machine.execChipReset word s
  | .causeWrite word => Sys2Proof.Machine.execCauseWrite word s
  | .refusedFlagClear word => Sys2Proof.Machine.execRefusedFlagClear word s
  | .stationChangesWrite high word => Sys2Proof.Machine.execStationChangesWrite high word s
  | .coalesceWrite word => Sys2Proof.Machine.execCoalesceWrite word s
  | .registerWrite select word => Sys2Proof.Machine.execRegisterWrite select word s
  | .windowDataRead => Sys2Proof.Machine.execWindowDataRead s
  | .windowDataWrite word => Sys2Proof.Machine.execWindowDataWrite word s
  | .pinReset => Sys2Proof.Machine.execPinReset s
  | .resetRelease => Sys2Proof.Machine.execResetRelease s
  | .powerOn => Sys2Proof.Machine.execPowerOn s
  | .sweepEnd => Sys2Proof.Machine.execSweepEnd s
  | .lineClockStep => Sys2Proof.Machine.execLineClockStep s
  | .deadlineExpiry => Sys2Proof.Machine.execDeadlineExpiry s
  | .holdExpiry => Sys2Proof.Machine.execHoldExpiry s
  | .coalescingTimerExpiry => Sys2Proof.Machine.execCoalescingTimerExpiry s
  | .settleEnd => Sys2Proof.Machine.execSettleEnd s
  | .contention => Sys2Proof.Machine.execContention s
  | .lfault asserted => Sys2Proof.Machine.execLfault asserted s
  | .turnaroundGapEnd => Sys2Proof.Machine.execTurnaroundGapEnd s
  | .lineSchedulerChoice => Sys2Proof.Machine.execLineSchedulerChoice s
  | .frameCompletelySent => Sys2Proof.Machine.execFrameCompletelySent s
  | .echoFault bit => Sys2Proof.Machine.execEchoFault bit s
  | .answerWindowClose => Sys2Proof.Machine.execAnswerWindowClose s
  | .answer run => Sys2Proof.Machine.execAnswer run s
  | .ignoredRun run => Sys2Proof.Machine.execIgnoredRun run s
  | .outcomeTaken => Sys2Proof.Machine.execOutcomeTaken s
  | .answerBegins bitTime => Sys2Proof.Machine.execAnswerBegins bitTime s

end Sys2Proof.Machine
end

