-- ==== Sys2Proof/Safety.lean ====
section
/-! DEFINITION. What the statements call a sound state: invariants of the blocks' lists, of the line, of the stations and
of the registers, on plain data. -/

namespace Sys2Proof.Machine

/-! ## The exchange in flight -/

/-- The slot of a REQUEST in flight, if the exchange in flight is one. -/
def State.requestInFlight (s : State) : Option SlotNo :=
  match s.lineScheduler.exchange with
  | some { kind := .request n, .. } => some n
  | _ => none

/-- The slot of a CANCEL in flight, if the exchange in flight is one. -/
def State.cancelInFlight (s : State) : Option SlotNo :=
  match s.lineScheduler.exchange with
  | some { kind := .cancel n, .. } => some n
  | _ => none

/-- How many places of the Dispatch Queue are held open. -/
def heldPlaces (q : List Place) : Nat := (q.filter fun p => p.slot.isNone).length

/-! ## Slots and their lists (R23, R51, R52, R98, R152) -/

/-- Each slot stands in exactly the list its state calls for, once; a slot is SENDING, or CANCELLING with its cancel in
flight, exactly while its exchange is in flight; one place is held exactly while a REQUEST is in flight. -/
abbrev SlotListsAgree (s : State) : Prop :=
  (queuedSlots s.dispatchQueue).Nodup ∧
  (∀ n, n ∈ queuedSlots s.dispatchQueue ↔ (s.slot n).state = .queued) ∧
  s.cancelList.Nodup ∧
  (∀ n, n ∈ s.cancelList ↔ (s.slot n).state = .cancelling ∧ (s.slot n).cancelInFlight = false) ∧
  s.completionUnit.queue.Nodup ∧
  (∀ n, n ∈ s.completionUnit.queue ↔ (s.slot n).state = .done) ∧
  (∀ n, (s.slot n).state = .sending ↔ s.requestInFlight = some n) ∧
  (∀ n, (s.slot n).cancelInFlight = true ↔ s.cancelInFlight = some n) ∧
  (∀ n, (s.slot n).cancelInFlight = true → (s.slot n).state = .cancelling) ∧
  heldPlaces s.dispatchQueue = s.requestInFlight.toList.length

/-! ## The Event Pool (R124) -/

/-- The free records, those of queue A and queue B, and the reserved one are the 24 records, each once. -/
abbrev PoolPartition (s : State) : Prop :=
  (s.eventPool.free ++ s.eventPool.queueA ++ s.eventPool.queueB ++ s.reserved.toList).Perm allRecords

/-! ## The line (R57, R138, R141, R171, R173) -/

/-- An exchange is in flight only in RUNNING and STOPPING, and always in STOPPING; the line is OFF through a sweep and
while RESET is asserted, when no sweep runs. -/
abbrev LineConsistent (s : State) : Prop :=
  (s.lineScheduler.exchange.isSome = true → s.lineEngine.state = .running ∨ s.lineEngine.state = .stopping) ∧
  (s.lineEngine.state = .stopping → s.lineScheduler.exchange.isSome = true) ∧
  (s.hostPort.sweep = true → s.lineEngine.state = .off) ∧
  (s.pins.reset = true → s.lineEngine.state = .off ∧ s.hostPort.sweep = false)

/-! ## Stations and their transactions (R54, R75, R77, R105) -/

/-- How many slots name the station and are WAITING or CANCELLING (R75). -/
def State.heldCount (s : State) (a : Address) : Nat :=
  (allSlots.filter fun n => (s.slot n).names a && (s.slot n).state.held).length

/-- Every live slot names a station 1–31 that is UNKNOWN or ACTIVE and does not hold the slot's tag in its quarantine
set; every outstanding count is the number of the station's slots that are WAITING or CANCELLING. -/
abbrev StationsAgree (s : State) : Prop :=
  (∀ n, (s.slot n).state.live = true → 1 ≤ (s.slot n).station.toNat ∧ (s.slot n).station.toNat ≤ 31) ∧
  (∀ n, (s.slot n).state.live = true → (s.station (s.slot n).address).state.served = true) ∧
  (∀ n, (s.slot n).state.live = true →
    (s.station (s.slot n).address).quarantine.getLsbD n.val = false) ∧
  (∀ a, (s.station a).outstanding = s.heldCount a)

/-! ## Records (R25, R26, R29) -/

/-- What a slot's record holds in each state: no status and no reply until it is DONE, host-cancel and deadline-expired
clear until it is CANCELLING (but host-cancel while SENDING), exactly one of the two in CANCELLING, attempts at most
the retry limit while a transmission is still to come, and at most two unanswered cancels in CANCELLING. -/
abbrev Slot.Sound (r : Slot) : Prop :=
  (r.state = .owned ∨ r.state.live = true →
    r.status = .noStatus ∧ r.replyStatus = 0 ∧ r.replyLength = 0 ∧ r.reply = Vector.replicate 32 0) ∧
  (r.state = .owned ∨ r.state = .queued ∨ r.state = .waiting → r.hostCancel = false) ∧
  (r.state = .owned ∨ r.state = .queued ∨ r.state = .sending ∨ r.state = .waiting → r.deadlineExpired = false) ∧
  (r.state = .cancelling → r.hostCancel ≠ r.deadlineExpired) ∧
  (r.state = .owned → r.attempts = 0) ∧
  (r.state = .queued ∨ r.state = .sending → r.attempts ≤ r.retryLimit.toNat ∧ r.retryLimit.toNat ≤ 7) ∧
  r.attempts ≤ 8 ∧
  (r.state = .owned ∨ r.state = .queued ∨ r.state = .sending ∨ r.state = .waiting → r.cancelAttempts = 0) ∧
  (r.state = .cancelling → r.cancelAttempts ≤ 2) ∧
  r.cancelAttempts ≤ 3

/-- Every slot's record is sound. -/
abbrev RecordsSound (s : State) : Prop := ∀ n, (s.slot n).Sound

/-! ## Completion reporting (R155 to R157) -/

/-- A queue that is not empty has COMPLETE latched or the timer running; a latched COMPLETE, and an empty queue, leave
the timer stopped. -/
abbrev CoalescingSound (u : CompletionUnit) : Prop :=
  (u.queue ≠ [] → u.causes.complete = true ∨ u.timer.isSome = true) ∧
  (u.causes.complete = true → u.timer = none) ∧
  (u.queue = [] → u.timer = none)

/-! ## Registers and counters (R59, R84, R87, R146, R149, R154) -/

/-- Every register's fields are legal, the burst counter is at most 8, and the consecutive echo count is at most 3, and
below 3 wherever the line is STARTING, RUNNING or STOPPING. -/
abbrev RegistersLegal (s : State) : Prop :=
  (32 ≤ s.lineEngine.answerWindow ∧ s.lineEngine.answerWindow ≤ 1023) ∧
  (1 ≤ s.stationTable.noAnswerLimit ∧ s.stationTable.noAnswerLimit ≤ 15) ∧
  (1 ≤ s.lineScheduler.burstLimit ∧ s.lineScheduler.burstLimit ≤ 8) ∧
  (1 ≤ s.stationTable.holdoff ∧ s.stationTable.holdoff ≤ 255) ∧
  (1 ≤ s.completionUnit.threshold ∧ s.completionUnit.threshold ≤ 32) ∧
  s.completionUnit.holdoff ≤ 255 ∧
  (∀ a, a ≠ 0 → 1 ≤ (s.station a).creditLimit ∧ (s.station a).creditLimit ≤ 8) ∧
  s.lineScheduler.burst ≤ 8 ∧
  s.lineEngine.echoCount ≤ 3 ∧
  (s.lineEngine.state.looksAtLfault = true → s.lineEngine.echoCount < 3)

/-! ## Commands and their outcomes on the Host Port's side (R165, R166, 11.3) -/

/-- The host's accesses are taken and no sweep runs: RESET is deasserted and INIT is 0. -/
abbrev Ready (s : State) : Prop := s.pins.reset = false ∧ s.hostPort.sweep = false

/-- COMMAND ARG bits 0–7: the slot, station or queue operand (11.3). -/
abbrev State.argLow (s : State) : Nat := (s.hostPort.commandArg.extractLsb' 0 8).toNat

/-- COMMAND ARG bits 8–15: the tag operand (11.3). -/
abbrev State.argHigh (s : State) : Nat := (s.hostPort.commandArg.extractLsb' 8 8).toNat

/-- The Host Port after a command with result DONE and its value (R165). -/
abbrev State.answered (s : State) (code value : Word) : HostPort :=
  { s.hostPort with command := code, result := .done, commandArg := value }

/-- The Host Port after a command with any other result: COMMAND ARG keeps the operands (R165). -/
abbrev State.denied (s : State) (code : Word) (r : Result) : HostPort :=
  { s.hostPort with command := code, result := r }

/-- The code whose write to COMMAND a command row is (11.3). -/
def commandCode : Instr → Option Word
  | .allocate => some 1
  | .post => some 2
  | .release => some 3
  | .retire => some 4
  | .cancel => some 5
  | .stationEnable => some 6
  | .stationDisable => some 7
  | .revive => some 8
  | .unquarantine => some 9
  | .eventFree => some 10
  | .initialise => some 11
  | .unknownCommandCode code => some code
  | _ => none

/-- The rows that are a write of a register by the host. -/
def isHostWrite : Instr → Bool
  | .runWrite1 _ | .runWrite0 _ | .interruptEnableWrite _ | .chipReset _ | .causeWrite _ | .refusedFlagClear _
  | .stationChangesWrite _ _ | .coalesceWrite _ | .registerWrite _ _ | .windowDataWrite _ => true
  | c => (commandCode c).isSome

/-- A write of CONTROL with the chip-reset bit set (R172). -/
def isChipReset : Instr → Bool
  | .runWrite1 w | .runWrite0 w | .interruptEnableWrite w | .chipReset w => w.getLsbD 2
  | .registerWrite select w => select == 1 && w.getLsbD 2
  | _ => false

/-- A write of CAUSE with a one at the position `i` (R158). -/
def isCauseWriteOf (i : Nat) : Instr → Bool
  | .causeWrite w => w.getLsbD i
  | .registerWrite select w => select == 3 && w.getLsbD i
  | _ => false

/-- A refused access, less the step of the window address: the REFUSED flag is set and the REFUSED cause latched
(R164). -/
abbrev State.refused (s : State) : State :=
  { s with
    hostPort := { s.hostPort with refusedFlag := true }
    completionUnit := { s.completionUnit with causes := { s.completionUnit.causes with refused := true } } }

/-- The window address stepped on by one (R168). -/
abbrev State.windowStepped (s : State) : State :=
  { s with hostPort := { s.hostPort with windowAddress := s.hostPort.windowAddress + 1 } }

/-! ## Frames: what stands while one slot, one station or one list changes -/

/-- Of the slots only `n` may differ, and the post counter stands. -/
abbrev OnlySlot (n : SlotNo) (s t : State) : Prop :=
  t.slotTable.postCounter = s.slotTable.postCounter ∧ ∀ m, m ≠ n → t.slot m = s.slot m

/-- Of the Station Table only the entry of `a` may differ. -/
abbrev OnlyStation (a : Address) (s t : State) : Prop :=
  t.stationTable = { s.stationTable with entries := t.stationTable.entries } ∧
  ∀ b, b ≠ a → t.station b = s.station b

/-- Of the Station Table only the entry of `a` and the station change set may differ. -/
abbrev OnlyStationAndChanges (a : Address) (s t : State) : Prop :=
  t.stationTable = { s.stationTable with entries := t.stationTable.entries, changes := t.stationTable.changes } ∧
  ∀ b, b ≠ a → t.station b = s.station b

/-! ## Completion (R28, R29, R155, R156) -/

/-- A DONE record with a status that stores no reply (R29). -/
abbrev Slot.ended (r : Slot) (status : Status) (octet : Octet) (clock : Word) : Slot :=
  { r with
    state := .done, status := status, replyStatus := octet, replyLength := 0, reply := Vector.replicate 32 0,
    completionTime := clock }

/-- The Completion Unit after slots join the queue in one change (R155, R156): COMPLETE is latched when the length
reaches the threshold or the holdoff of a timer just started is 0, and a latching stops the timer. -/
abbrev CompletionUnit.joined (slots : List SlotNo) (u : CompletionUnit) : CompletionUnit :=
  let length := u.queue.length + slots.length
  let starts := u.queue = [] ∧ u.causes.complete = false
  { u with
    queue := u.queue ++ slots
    causes := { u.causes with
      complete := u.causes.complete || decide (u.threshold ≤ length) || decide (u.queue = [] ∧ u.holdoff = 0) }
    timer :=
      if u.threshold ≤ length then none
      else if starts then (if u.holdoff = 0 then none else some u.holdoff)
      else u.timer }

/-- The LINE cause latched (R151). -/
abbrev CompletionUnit.lineLatched (u : CompletionUnit) : CompletionUnit :=
  { u with causes := { u.causes with line := true } }

/-- The LINE_ERROR cause latched (R147). -/
abbrev CompletionUnit.lineErrorLatched (u : CompletionUnit) : CompletionUnit :=
  { u with causes := { u.causes with lineError := true } }

/-! ## The start of a sweep (R173) -/

/-- Every block is in the starting state its chapter gives, INIT is 1, and the registers stand (R49, R91, R122, R136,
R159, R167, R173). -/
abbrev SweepStarts (s t : State) : Prop :=
  t = { s with
        hostPort := t.hostPort, slotTable := t.slotTable, dispatchQueue := [], cancelList := [],
        stationTable := t.stationTable, classifier := t.classifier, eventPool := t.eventPool,
        completionUnit :=
          { s.completionUnit with
            queue := [], timer := none,
            causes := { s.completionUnit.causes with complete := false, alert := false } },
        lineScheduler := { s.lineScheduler with burst := 0, exchange := none } } ∧
  t.hostPort.sweep = true ∧
  (∀ n, t.slot n = Slot.zero) ∧ t.slotTable.postCounter = 0 ∧
  t.stationTable =
    { s.stationTable with entries := t.stationTable.entries, rotation := 0, changes := 0 } ∧
  t.station 0 = Station.zero ∧ (∀ a, a ≠ 0 → t.station a = { Station.zero with creditLimit := 2 }) ∧
  t.classifier = { s.classifier with table := t.classifier.table } ∧
  (∀ i : EntryNo, t.classifier.table[i] = MatchEntry.zero) ∧
  (∀ r : RecordNo, t.eventPool.records[r] = EventRecord.zero) ∧ t.eventPool.free = List.finRange 24 ∧
  t.eventPool.queueA = [] ∧ t.eventPool.queueB = []

/-! ## Eligibility and the poll ring in the spec's words (R54, R55, R62, R79) -/

/-- The station is UNKNOWN or ACTIVE. -/
abbrev Served (e : Station) : Prop := e.state = .unknown ∨ e.state = .active

/-- The conditions of R54: slot `n`, which names station `a`, is QUEUED, its station is served, not held and below its
credit limit, and no slot before it in the queue names the same station (R55). -/
abbrev Eligible (s : State) (n : SlotNo) : Prop :=
  (s.slot n).state = .queued ∧ Served (s.station (s.slot n).address) ∧
  (s.station (s.slot n).address).holdRemaining = 0 ∧
  (s.station (s.slot n).address).outstanding < (s.station (s.slot n).address).creditLimit ∧
  ∃ before after, queuedSlots s.dispatchQueue = before ++ n :: after ∧
    ∀ m ∈ before, (s.slot m).station ≠ (s.slot n).station

/-- The condition of R79. -/
abbrev InRing (e : Station) : Prop := Served e ∧ (e.pollMode ≠ .off ∨ 0 < e.outstanding ∨ e.ack ≠ .noAck)

/-- How many addresses the search of R62 examines up to `a`: from the one after the pointer up to 31, then from 1. -/
def pollDistance (pointer a : Address) : Nat :=
  if pointer.val < a.val then a.val - pointer.val else 31 - pointer.val + a.val

/-! ## Frames of stations (R5, R7, R12, R13, 11.5) -/

/-- The kind code, the repeat flag and the relay flag of a kind octet, and the low five bits of an address or tag octet
(11.5). -/
abbrev kindCode (k : Octet) : Nat := k.toNat % 16
abbrev repeatOf (k : Octet) : Bool := k.getLsbD 4
abbrev relayOf (k : Octet) : Bool := k.getLsbD 5
abbrev lowBits (o : Octet) : Nat := o.toNat % 32

/-- How many octets stand between length and payload: the reason or status octet of REFUSE and REPLY, the relay prefix
of a relayed EVENT (R3). -/
def extraCount (k : Octet) : Nat :=
  if kindCode k = 9 ∨ kindCode k = 10 then 1 else if kindCode k = 11 ∧ relayOf k = true then 2 else 0

/-- A received frame, part by part (R5); each part but the check, which is right by R8, is free. -/
structure AnswerFrame where
  kind    : Octet
  address : Octet
  tag     : Octet
  extra   : List Octet
  payload : List Octet
  deriving DecidableEq, Repr

/-- The parts have the sizes that the kind and length octets fix (R3). -/
abbrev AnswerFrame.Sized (f : AnswerFrame) : Prop := f.extra.length = extraCount f.kind ∧ f.payload.length ≤ 64

/-- The octets that the check covers (R8). -/
def AnswerFrame.covered (f : AnswerFrame) : List Octet :=
  [f.kind, f.address, f.tag, BitVec.ofNat 8 f.payload.length] ++ f.extra ++ f.payload

/-- The frame as sent: sync, the covered octets, and the check, high octet first (R5, R8). -/
def AnswerFrame.octets (f : AnswerFrame) : List Octet := 0xA5 :: f.covered ++ checkOctets (check f.covered)

/-- The run begins with the frame: its octets stand first, no idle time between two of them is longer than 20 bit-times
and every stop bit is marking. Octets after the frame belong to another run (R2, R3). -/
abbrev BeginsWith (f : AnswerFrame) (run : List RxOctet) : Prop :=
  ∃ front rest, run = front ++ rest ∧ front.map RxOctet.data = f.octets ∧
    (∀ o ∈ front, o.stopMark = true) ∧ ∀ o ∈ front.tail, o.gap ≤ 20

/-- The valid answers of R13, each with the meaning of its fields (R7): `a` is the answer that the frame `f` gives to an
exchange of kind `x` with `station`, the line clock and the Classifier's decision standing as in `s`. -/
def ValidAnswer (s : State) (x : ExchangeKind) (station : Address) (f : AnswerFrame) (a : Answer) : Prop :=
  lowBits f.address = station.val ∧
  ((∃ n, x = .request n ∧ kindCode f.kind = 8 ∧ lowBits f.tag = n.val ∧ f.payload = [] ∧ a = .accept) ∨
   (∃ n reason, x = .request n ∧ kindCode f.kind = 9 ∧ lowBits f.tag = n.val ∧ f.payload = [] ∧
      f.extra = [reason] ∧ a = .refuse reason) ∨
   (∃ k ack tag octet, x = .poll k ack ∧ kindCode f.kind = 10 ∧ lowBits f.tag = tag.val ∧ ack ≠ .reply tag ∧
      f.extra = [octet] ∧ a = .reply tag (repeatOf f.kind) octet f.payload) ∨
   (∃ n octet, x = .cancel n ∧ kindCode f.kind = 10 ∧ lowBits f.tag = n.val ∧
      f.extra = [octet] ∧ a = .reply n (repeatOf f.kind) octet f.payload) ∨
   (∃ r ack relay, x = .poll (.any r) ack ∧ kindCode f.kind = 11 ∧ ack ≠ .event ∧
      ((relayOf f.kind = false ∧ relay = none) ∨
       (∃ origin hop, relayOf f.kind = true ∧ f.extra = [origin, hop] ∧ 1 ≤ hop.toNat ∧ hop.toNat ≤ 3 ∧
          relay = some (origin, hop))) ∧
      a = .event
        { repeatFlag := repeatOf f.kind, relay := relay, payload := f.payload, arrival := s.lineEngine.clock,
          decision := s.classifier.decide
            { station := station, relayed := relayOf f.kind, payload := f.payload } }) ∨
   (∃ k ack, x = .poll k ack ∧ kindCode f.kind = 12 ∧ f.payload = [] ∧ a = .idle) ∨
   (∃ n, x = .cancel n ∧ kindCode f.kind = 13 ∧ lowBits f.tag = n.val ∧ f.payload = [] ∧ a = .cancelled))

/-- One of the eight cases of R12. -/
def Breach (x : ExchangeKind) (station : Address) (f : AnswerFrame) : Prop :=
  ¬ (8 ≤ kindCode f.kind ∧ kindCode f.kind ≤ 13) ∨
  (match x with
   | .request _ => ¬ (kindCode f.kind = 8 ∨ kindCode f.kind = 9)
   | .poll .replyOnly _ => ¬ (kindCode f.kind = 10 ∨ kindCode f.kind = 12)
   | .poll (.any _) _ => ¬ (kindCode f.kind = 10 ∨ kindCode f.kind = 11 ∨ kindCode f.kind = 12)
   | .cancel _ => ¬ (kindCode f.kind = 10 ∨ kindCode f.kind = 13)) ∨
  lowBits f.address ≠ station.val ∨
  (match x with
   | .request n => lowBits f.tag ≠ n.val
   | .cancel n => lowBits f.tag ≠ n.val
   | .poll _ _ => False) ∨
  (kindCode f.kind ≠ 10 ∧ kindCode f.kind ≠ 11 ∧ f.payload ≠ []) ∨
  (kindCode f.kind = 11 ∧ relayOf f.kind = true ∧ ∃ origin hop, f.extra = [origin, hop] ∧
    (hop.toNat = 0 ∨ 3 < hop.toNat)) ∨
  (∃ k tag, x = .poll k (.reply tag) ∧ kindCode f.kind = 10 ∧ lowBits f.tag = tag.val) ∨
  (∃ k, x = .poll k .event ∧ kindCode f.kind = 11)

/-! ## The exchange in flight come to an outcome -/

/-- The exchange in flight, with its outcome decided. -/
abbrev State.decidedAs (s : State) (x : Exchange) (o : ExchangeOutcome) : State :=
  { s with lineScheduler := { s.lineScheduler with exchange := some { x with phase := .decided o } } }

/-- The outcome `o` is decided for the exchange `x` in flight and has still to be taken. -/
abbrev Decided (s : State) (x : Exchange) (o : ExchangeOutcome) : Prop :=
  s.lineScheduler.exchange = some x ∧ x.phase = .decided o

/-- A run of octets with no gap and every stop bit marking. -/
def cleanRun (octets : List Octet) : List RxOctet :=
  octets.map fun o => { gap := 0, data := o, stopMark := true }

end Sys2Proof.Machine
end

