-- ==== Sys2Proof/Certificates/Slice0/Obligations.lean ====
section
/-! DEFINITION. The statements for the provers. Each cites the rules of spec/ it rests on; where a clause is the model's own
choice, the docstring names the log entry. -/

open Sys2Proof Sys2Proof.Machine

/-! ## The queue of commands -/

/-- The step takes the command at the front of the queue and carries it out on the state with the queue's rest; on an empty
queue the block idles (the model's own queue: log 1, log 3). -/
def Obligations.StepRunsFrontCommandOrIdles : Prop :=
  (∀ (c : Instr) (rest : List Instr) (s : State), s.pending = c :: rest →
    step s = exec c { s with pending := rest }) ∧
  ∀ s : State, s.pending = [] → step s = .next s

/-- Every command has an outcome that is a next state, in every state, and none touches the queue of commands that wait. The
queue is the model's own (log 1); an event that cannot arise in a state changes nothing there, which is the model's choice
(log 2). -/
def Obligations.EveryCommandAnswersANextState : Prop :=
  ∀ (c : Instr) (s : State), ∃ t, exec c s = .next t ∧ t.pending = s.pending

/-! ## Resets and the sweep (10.4, 10.5, 11.1) -/

/-- What every register shows, for every state with RESET deasserted, bit by bit, high bits first; bits of no field and the
empty offsets read 0 (R162, R175, 11.1, 11.2). STATUS shows the line state, INIT, the REFUSED flag and the reset cause; CAUSE
every cause that is latched or active, whatever the enables hold (R158); COMMAND RESULT the result code and, for BAD_RECORD
alone, the field code (11.3); the heads the number at the head of their queue, FFFFh for an empty one, and the counts the
lengths, with the flag of a record reserved (R132, R153); STATION CHANGES the bit of each address, that of address 0 reading 0; the two records the low nine and
six bits of their times (R176). A read is a function of the state (log 15); what the read of WINDOW DATA changes is stated
beside it. At the end of the sweep after a pin reset, WINDOW DATA apart, the registers read as 11.1 lists them; during that
sweep STATUS reads 0008h and CAUSE 0 (State.reset is that moment: log 9). -/
def Obligations.RegistersReadTheStateAndTheirResetValues : Prop :=
  (∀ s : State, s.pins.reset = false →
    s.readRegister 0 = 0x3120 ∧
    s.readRegister 1 = 0#14 ++ BitVec.ofBool s.completionUnit.interruptEnable ++ BitVec.ofBool s.hostPort.run ∧
    s.readRegister 2 =
      0#10 ++ (match s.hostPort.resetCause with | .pin => 0#1 | .chip => 1#1) ++
        BitVec.ofBool s.hostPort.refusedFlag ++ BitVec.ofBool s.hostPort.sweep ++
        (match s.lineEngine.state with
         | .off => 0#3 | .starting => 1#3 | .running => 2#3 | .stopping => 3#3 | .fault => 4#3) ∧
    s.readRegister 3 =
      0#6 ++ BitVec.ofBool s.completionUnit.causes.initDone ++ BitVec.ofBool s.completionUnit.causes.refused ++
        BitVec.ofBool s.completionUnit.causes.stray ++ BitVec.ofBool s.completionUnit.causes.lineError ++
        BitVec.ofBool s.completionUnit.causes.line ++ BitVec.ofBool (decide (s.stationTable.changes ≠ 0)) ++
        BitVec.ofBool s.completionUnit.causes.alert ++ BitVec.ofBool (decide (s.eventPool.queueB ≠ [])) ++
        BitVec.ofBool (decide (s.eventPool.queueA ≠ [])) ++ BitVec.ofBool s.completionUnit.causes.complete ∧
    s.readRegister 4 = 0#6 ++ s.completionUnit.enables ∧
    s.readRegister 5 = s.hostPort.command ∧
    s.readRegister 6 = s.hostPort.commandArg ∧
    s.readRegister 7 =
      (match s.hostPort.result with
       | .noCommand => 0x0000 | .done => 0x0001 | .nothing => 0x0002 | .wrongState => 0x0003
       | .badRecord .station => 0x0104 | .badRecord .priority => 0x0204 | .badRecord .retryLimit => 0x0304
       | .badRecord .requestLength => 0x0404 | .stationUnavailable => 0x0005 | .quarantined => 0x0006
       | .already => 0x0007 | .busy => 0x0008 | .badOperand => 0x0009) ∧
    s.readRegister 8 =
      (match s.completionUnit.queue with | [] => 0xFFFF | n :: _ => BitVec.ofNat 16 n.val) ∧
    s.readRegister 9 = BitVec.ofNat 16 s.completionUnit.queue.length ∧
    s.readRegister 10 = (match s.eventPool.queueA with | [] => 0xFFFF | r :: _ => BitVec.ofNat 16 r.val) ∧
    s.readRegister 11 = (match s.eventPool.queueB with | [] => 0xFFFF | r :: _ => BitVec.ofNat 16 r.val) ∧
    s.readRegister 12 =
      BitVec.ofNat 5 s.eventPool.queueB.length ++ BitVec.ofNat 5 s.eventPool.queueA.length ++
        BitVec.ofBool s.reserved.isSome ++ BitVec.ofNat 5 s.eventPool.free.length ∧
    (∀ i : Fin 16, (s.readRegister 13).getLsbD i.val =
      if i = 0 then false else s.stationTable.changes.getLsbD i.val) ∧
    (∀ i : Fin 16, (s.readRegister 14).getLsbD i.val = s.stationTable.changes.getLsbD (16 + i.val)) ∧
    s.readRegister 15 = 0#4 ++ s.hostPort.windowAddress ∧
    s.readRegister 16 =
      (if s.hostPort.sweep = true then 0 else (s.tableRead s.hostPort.windowAddress).getD 0) ∧
    s.readRegister 17 =
      (match s.lineEngine.rate with | .kbit125 => 0 | .kbit500 => 1 | .mbit1 => 2 | .mbit2 => 3) ∧
    s.readRegister 18 = 0#6 ++ BitVec.ofNat 10 s.lineEngine.answerWindow ∧
    s.readRegister 19 =
      0#4 ++ BitVec.ofNat 4 s.lineScheduler.burstLimit ++ 0#4 ++ BitVec.ofNat 4 s.stationTable.noAnswerLimit ∧
    s.readRegister 20 = BitVec.ofNat 16 s.stationTable.holdoff ∧
    s.readRegister 21 =
      BitVec.ofNat 8 s.completionUnit.holdoff ++ 0#2 ++ BitVec.ofNat 6 s.completionUnit.threshold ∧
    s.readRegister 22 = s.lineEngine.clock ∧
    s.readRegister 23 =
      (match s.lineEngine.error.kind with | .noError => 0#2 | .check => 1#2 | .protocol => 2#2 | .echo => 3#2) ++
        BitVec.ofNat 5 s.lineEngine.error.station.val ++ s.lineEngine.error.time.extractLsb' 0 9 ∧
    s.readRegister 24 =
      BitVec.ofNat 5 s.strayRecord.station.val ++ BitVec.ofNat 5 s.strayRecord.tag.val ++
        s.strayRecord.time.extractLsb' 0 6 ∧
    s.readRegister 25 =
      0#10 ++ (match s.classifier.defaultAction with | .queueA => 0#2 | .queueB => 1#2 | .discard => 2#2) ++
        0#3 ++ BitVec.ofBool s.classifier.enable ∧
    ∀ select : BitVec 5, 26 ≤ select.toNat → s.readRegister select = 0) ∧
  (∃ t, exec .sweepEnd State.reset = .next t ∧
    ((List.range 32).filter (· ≠ 16)).map (fun k => t.readRegister (BitVec.ofNat 5 k)) =
      [0x3120, 0x0000, 0x0000, 0x0200, 0x0000, 0x0000, 0x0000, 0x0000, 0xFFFF, 0x0000, 0xFFFF, 0xFFFF, 0x0018,
       0x0000, 0x0000, 0x0000, 0x0001, 0x00A0, 0x0404, 0x0014, 0x0001, 0x0000, 0x0000, 0x0000, 0x0000, 0x0000,
       0x0000, 0x0000, 0x0000, 0x0000, 0x0000]) ∧
  State.reset.readRegister 2 = 0x0008 ∧ State.reset.readRegister 3 = 0x0000

/-- After a sweep every word of table space that exists reads 0, but the configuration words of entries 1–31, which read
0200h; the empty ranges have no word (R173). -/
def Obligations.SweptTableSpaceIsZeroButConfigurationWords : Prop :=
  ∀ (s t u : State) (c : Instr),
    (c = .resetRelease ∧ s.pins.reset = true ∨ c = .chipReset 4 ∧ s.pins.reset = false ∨
      c = .initialise ∧ Ready s ∧ s.lineEngine.state = .off) →
    exec c s = .next t → exec .sweepEnd t = .next u →
    ∀ addr : BitVec 12, u.tableRead addr =
      if (0xB40 ≤ addr.toNat ∧ addr.toNat < 0xC00) ∨ 0xFC0 ≤ addr.toNat then none
      else if 0xA08 ≤ addr.toNat ∧ addr.toNat < 0xB00 ∧ addr.toNat % 8 = 1 then some 0x0200
      else some 0

/-- PIN_RESET puts every register and block at its reset value and holds the 3120 in reset; RESET_RELEASE starts the sweep;
POWER_ON ends as the release of RESET, unless the board holds RESET asserted, which extends the reset (R150, R171). The
levels of the inputs, D0–D15 and the waiting commands are not reset (logs 7, 8). R173 has the sweep write the words of table
space up to its end; that they are 0 (0200h in the configuration words) from the assertion of RESET and from the start of the
sweep on is the model's choice (log 10), and so is the reset that goes on at POWER_ON with RESET asserted (log 28). The
turnaround gap has then still to pass (log 23). -/
def Obligations.PinResetReleaseAndPowerOn : Prop :=
  ∀ s : State,
    exec .pinReset s = .next
      { State.reset with
        pending := s.pending, pins := { s.pins with reset := true },
        hostPort := { State.reset.hostPort with sweep := false } } ∧
    (s.pins.reset = true → ∃ t, exec .resetRelease s = .next t ∧
      SweepStarts { s with pins := { s.pins with reset := false } } t ∧
      t.hostPort = { s.hostPort with sweep := true }) ∧
    (s.pins.reset = false →
      exec .powerOn s = .next { State.reset with pending := s.pending, pins := s.pins }) ∧
    (s.pins.reset = true →
      exec .powerOn s = .next
        { State.reset with
          pending := s.pending, pins := s.pins, hostPort := { State.reset.hostPort with sweep := false } })

/-- While RESET is asserted a host's write has no effect, a read of WINDOW DATA drives 0 and changes nothing else, every
register reads 0, INTR and DE are deasserted with the line OFF, and the line clock does not step (R148, R162, R171). What
D0–D15 were last driven to is held in `pins.dataOut` (log 7). -/
def Obligations.NoAccessWhileResetIsAsserted : Prop :=
  ∀ s : State, s.pins.reset = true →
    (∀ c, isHostWrite c = true → exec c s = .next s) ∧
    exec .windowDataRead s = .next { s with pins := { s.pins with dataOut := 0 } } ∧
    (∀ select, s.readRegister select = 0) ∧ s.intr = false ∧
    (s.lineEngine.state = .off → s.de = false) ∧
    exec .lineClockStep s = .next s

/-- A write of CONTROL with the chip-reset bit set is a chip reset, by whichever row it comes (logs 5, 6), whatever its other
bits and whether or not a sweep runs: every register and block at its reset value, the reset cause chip, the sweep started
(R172, R174). R173 has the sweep write the words of table space up to its end; that they are 0 (0200h in the configuration
words) from its start on is the model's choice (log 10). D0–D15 (log 7), the levels of the inputs (log 8) and the waiting
commands (log 1) stand, and the turnaround gap has still to pass (log 23). -/
def Obligations.ChipResetResetsAndSweeps : Prop :=
  ∀ (s : State) (w : Word) (c : Instr), s.pins.reset = false → w.getLsbD 2 = true →
    c ∈ [.chipReset w, .runWrite1 w, .runWrite0 w, .interruptEnableWrite w, .registerWrite 1 w] →
    exec c s = .next
      { State.reset with
        pending := s.pending, pins := s.pins, hostPort := { State.reset.hostPort with resetCause := .chip } }

/-- The end of the sweep: INIT is 0 and INIT_DONE latched; with RUN holding 1 the line enters STARTING, or FAULT at once
with LFAULT asserted (R138, R145, R173). Where no sweep runs nothing ends (log 2). -/
def Obligations.SweepEndClearsInitAndStartsTheLine : Prop :=
  ∀ s : State,
    (s.hostPort.sweep = false → exec .sweepEnd s = .next s) ∧
    (LineConsistent s → s.hostPort.sweep = true → ∃ t, exec .sweepEnd s = .next t ∧
      t = { s with
            hostPort := { s.hostPort with sweep := false }, completionUnit := t.completionUnit,
            lineEngine := t.lineEngine, lineScheduler := t.lineScheduler } ∧
      (s.hostPort.run = false →
        t.completionUnit =
          { s.completionUnit with causes := { s.completionUnit.causes with initDone := true } } ∧
        t.lineEngine = s.lineEngine ∧ t.lineScheduler = s.lineScheduler) ∧
      (s.hostPort.run = true →
        t.lineScheduler = { s.lineScheduler with burst := 0 } ∧
        t.lineEngine =
          { s.lineEngine with
            state := if s.pins.lfault then .fault else .starting, echoCount := 0, gapPassed := false } ∧
        t.completionUnit =
          { s.completionUnit with
            causes :=
              { s.completionUnit.causes with
                initDone := true, line := s.completionUnit.causes.line || s.pins.lfault } }))

/-- INITIALISE with the line OFF: DONE with the value 0, COMPLETE and ALERT cleared, the sweep started, the REFUSED flag, the
reset cause and every register left; in any other line state WRONG_STATE and nothing else changes; BUSY while a sweep runs
(R167, R173). R173 has the sweep write the words of table space up to its end; that they are 0 (0200h in the configuration
words) from the moment INITIALISE is taken is the model's choice (log 10). -/
def Obligations.InitialiseSweepsWithTheLineOff : Prop :=
  ∀ s : State, s.pins.reset = false →
    (s.hostPort.sweep = false → s.lineEngine.state = .off → ∃ t, exec .initialise s = .next t ∧
      SweepStarts s t ∧ t.hostPort = { s.answered 11 0 with sweep := true }) ∧
    (s.hostPort.sweep = false → s.lineEngine.state ≠ .off →
      exec .initialise s = .next { s with hostPort := s.denied 11 .wrongState }) ∧
    (s.hostPort.sweep = true → exec .initialise s = .next { s with hostPort := s.denied 11 .busy })

/-! ## Slot commands (02) -/

/-- ALLOCATE takes the lowest-numbered FREE slot to OWNED with its 3120 fields at their starting values and its host fields
as they stand; NONE when no slot is FREE (R32). -/
def Obligations.AllocateTakesTheLowestFreeSlot : Prop :=
  ∀ s : State, Ready s →
    (∀ n, (s.slot n).state = .free → (∀ m, m < n → (s.slot m).state ≠ .free) →
      ∃ t, exec .allocate s = .next t ∧
        t = { s with slotTable := t.slotTable, hostPort := s.answered 1 (BitVec.ofNat 16 n.val) } ∧
        OnlySlot n s t ∧
        t.slot n =
          { state := .owned, station := (s.slot n).station, priority := (s.slot n).priority,
            retryLimit := (s.slot n).retryLimit, deadline := (s.slot n).deadline,
            requestLength := (s.slot n).requestLength, request := (s.slot n).request,
            postNumber := 0, attempts := 0, cancelAttempts := 0, hostCancel := false, deadlineExpired := false,
            cancelInFlight := false, status := .noStatus, replyStatus := 0, replyLength := 0,
            reply := Vector.replicate 32 0, completionTime := 0, deadlineRemaining := 0 }) ∧
    ((∀ n, (s.slot n).state ≠ .free) → exec .allocate s = .next { s with hostPort := s.denied 1 .nothing })

/-- A POST that passes every test of R33: QUEUED at the tail of the level its priority names, with the post counter as its
post number and the deadline as its deadline remaining; the counter steps on and wraps; DONE with the post number (R31,
R34). -/
def Obligations.PostQueuesALegalRecord : Prop :=
  ∀ (s : State) (n : SlotNo) (a : Address), Ready s → s.argLow = n.val →
    (s.slot n).state = .owned → (s.slot n).station.toNat = a.val → a ≠ 0 →
    (s.slot n).priority.toNat ≤ 1 → (s.slot n).retryLimit.toNat ≤ 7 → (s.slot n).requestLength.toNat ≤ 64 →
    Served (s.station a) → (s.station a).quarantine.getLsbD n.val = false →
    ∃ t, exec .post s = .next t ∧
      t = { s with
            slotTable := t.slotTable,
            dispatchQueue :=
              s.dispatchQueue ++ [⟨if (s.slot n).priority = 1 then .urgent else .normal, some n⟩],
            hostPort := s.answered 2 s.slotTable.postCounter } ∧
      t.slot n =
        { s.slot n with
          state := .queued, postNumber := s.slotTable.postCounter, deadlineRemaining := (s.slot n).deadline } ∧
      (∀ m, m ≠ n → t.slot m = s.slot m) ∧
      t.slotTable.postCounter = s.slotTable.postCounter + 1

/-- A POST that fails a test of R33: the first test that fails, in the order of R33, gives the result, and nothing else
changes. -/
def Obligations.PostRefusesByTheFirstFailingTest : Prop :=
  ∀ (s : State) (n : SlotNo) (r : Result), Ready s → s.argLow = n.val →
    (if (s.slot n).state ≠ .owned then some Result.wrongState
     else if (s.slot n).station.toNat < 1 ∨ 31 < (s.slot n).station.toNat then some (.badRecord .station)
     else if 1 < (s.slot n).priority.toNat then some (.badRecord .priority)
     else if 7 < (s.slot n).retryLimit.toNat then some (.badRecord .retryLimit)
     else if 64 < (s.slot n).requestLength.toNat then some (.badRecord .requestLength)
     else if (s.station (s.slot n).address).state = .disabled ∨ (s.station (s.slot n).address).state = .offline then
       some .stationUnavailable
     else if (s.station (s.slot n).address).quarantine.getLsbD n.val then some .quarantined
     else none) = some r →
    exec .post s = .next { s with hostPort := s.denied 2 r }

/-- RELEASE of an OWNED slot: FREE, the record's contents kept, DONE with the slot number; WRONG_STATE and nothing else in
any other state (R35). -/
def Obligations.ReleaseFreesAnOwnedSlot : Prop :=
  ∀ (s : State) (n : SlotNo), Ready s → s.argLow = n.val →
    ((s.slot n).state = .owned → ∃ t, exec .release s = .next t ∧
      t = { s with slotTable := t.slotTable, hostPort := s.answered 3 (BitVec.ofNat 16 n.val) } ∧
      OnlySlot n s t ∧ t.slot n = { s.slot n with state := .free }) ∧
    ((s.slot n).state ≠ .owned → exec .release s = .next { s with hostPort := s.denied 3 .wrongState })

/-- RETIRE of a DONE slot: FREE with its record kept, out of the completion queue from whatever place, the timer stopped if
the queue is then empty, COMPLETE untouched; DONE with the slot number; WRONG_STATE otherwise (R46, R152, R155, R156). -/
def Obligations.RetireFreesADoneSlot : Prop :=
  ∀ (s : State) (n : SlotNo), Ready s → s.argLow = n.val →
    ((s.slot n).state = .done → ∃ t, exec .retire s = .next t ∧
      t = { s with
            slotTable := t.slotTable, hostPort := s.answered 4 (BitVec.ofNat 16 n.val),
            completionUnit :=
              { s.completionUnit with
                queue := s.completionUnit.queue.filter (· ≠ n),
                timer := if s.completionUnit.queue.filter (· ≠ n) = [] then none else s.completionUnit.timer } } ∧
      OnlySlot n s t ∧ t.slot n = { s.slot n with state := .free }) ∧
    ((s.slot n).state ≠ .done → exec .retire s = .next { s with hostPort := s.denied 4 .wrongState })

/-- CANCEL in each state of the slot (R43, R44, R45): withdrawn from QUEUED, marked in SENDING, put on the Cancel List from
WAITING; in CANCELLING it is BUSY with the cancel in flight, ALREADY with the line RUNNING, and otherwise ABANDONED, with
the outstanding count one lower and the tag quarantined. -/
def Obligations.CancelActsByTheSlotsState : Prop :=
  ∀ (s : State) (n : SlotNo), Ready s → s.argLow = n.val →
    ((s.slot n).state = .free ∨ (s.slot n).state = .owned ∨ (s.slot n).state = .done →
      exec .cancel s = .next { s with hostPort := s.denied 5 .wrongState }) ∧
    ((s.slot n).state = .queued → ∃ t, exec .cancel s = .next t ∧
      t = { s with
            slotTable := t.slotTable, hostPort := s.answered 5 6,
            dispatchQueue := s.dispatchQueue.filter fun p => p.slot ≠ some n,
            cancelList := s.cancelList.filter (· ≠ n),
            completionUnit := s.completionUnit.joined [n] } ∧
      OnlySlot n s t ∧ t.slot n = (s.slot n).ended .cancelled 0 s.lineEngine.clock) ∧
    ((s.slot n).state = .sending → ∃ t, exec .cancel s = .next t ∧
      t = { s with slotTable := t.slotTable, hostPort := s.answered 5 3 } ∧
      OnlySlot n s t ∧ t.slot n = { s.slot n with hostCancel := true }) ∧
    ((s.slot n).state = .waiting → ∃ t, exec .cancel s = .next t ∧
      t = { s with
            slotTable := t.slotTable, hostPort := s.answered 5 5, cancelList := s.cancelList ++ [n] } ∧
      OnlySlot n s t ∧ t.slot n = { s.slot n with state := .cancelling, hostCancel := true }) ∧
    ((s.slot n).state = .cancelling → (s.slot n).cancelInFlight = true →
      exec .cancel s = .next { s with hostPort := s.denied 5 .busy }) ∧
    ((s.slot n).state = .cancelling → (s.slot n).cancelInFlight = false → s.lineEngine.state = .running →
      exec .cancel s = .next { s with hostPort := s.denied 5 .already }) ∧
    (∀ a : Address, (s.slot n).state = .cancelling → (s.slot n).cancelInFlight = false →
      s.lineEngine.state ≠ .running → (s.slot n).station.toNat = a.val → ∃ t, exec .cancel s = .next t ∧
      t = { s with
            slotTable := t.slotTable, hostPort := s.answered 5 6,
            dispatchQueue := s.dispatchQueue.filter fun p => p.slot ≠ some n,
            cancelList := s.cancelList.filter (· ≠ n), stationTable := t.stationTable,
            completionUnit := s.completionUnit.joined [n] } ∧
      OnlySlot n s t ∧ t.slot n = (s.slot n).ended .abandoned 0 s.lineEngine.clock ∧
      OnlyStation a s t ∧
      t.station a =
        { s.station a with
          outstanding := (s.station a).outstanding - 1,
          quarantine := (s.station a).quarantine ||| BitVec.twoPow 32 n.val })

/-- A slot operand above 31 gives BAD_OPERAND whatever the slots hold, and every slot command gives BUSY while the sweep
runs; the slot table, the post counter and every list stand (R47). -/
def Obligations.SlotCommandsTestTheirOperand : Prop :=
  ∀ (s : State) (c : Instr) (code : Word), s.pins.reset = false →
    (s.hostPort.sweep = false → 31 < s.argLow →
      (c, code) ∈ [(Instr.post, (2 : Word)), (.release, 3), (.retire, 4), (.cancel, 5)] →
      exec c s = .next { s with hostPort := s.denied code .badOperand }) ∧
    (s.hostPort.sweep = true →
      (c, code) ∈ [(Instr.allocate, (1 : Word)), (.post, 2), (.release, 3), (.retire, 4), (.cancel, 5)] →
      exec c s = .next { s with hostPort := s.denied code .busy })

/-- The tests of a command write, in order (R166): BUSY for every command word while the sweep runs; BAD_OPERAND for a code
that names no command; BAD_OPERAND for an operand out of range. Nothing else changes. The row of unknown codes with one of the
eleven codes is that command's write (log 6). -/
def Obligations.CommandWritesAreTestedInOrder : Prop :=
  ∀ (s : State), s.pins.reset = false →
    (∀ c code, s.hostPort.sweep = true → commandCode c = some code →
      exec c s = .next { s with hostPort := s.denied code .busy }) ∧
    (∀ code : Word, s.hostPort.sweep = false → code = 0 ∨ 11 < code.toNat →
      exec (.unknownCommandCode code) s = .next { s with hostPort := s.denied code .badOperand }) ∧
    (∀ c code, s.hostPort.sweep = false → s.argLow = 0 ∨ 31 < s.argLow →
      (c, code) ∈ [(Instr.stationEnable, (6 : Word)), (.stationDisable, 7), (.revive, 8), (.unquarantine, 9)] →
      exec c s = .next { s with hostPort := s.denied code .badOperand }) ∧
    (s.hostPort.sweep = false → 31 < s.argHigh →
      exec .unquarantine s = .next { s with hostPort := s.denied 9 .badOperand }) ∧
    (∀ c code, s.hostPort.sweep = false → 31 < s.argLow →
      (c, code) ∈ [(Instr.post, (2 : Word)), (.release, 3), (.retire, 4), (.cancel, 5), (.eventFree, 10)] →
      exec c s = .next { s with hostPort := s.denied code .badOperand })

/-! ## Station commands and EVENT FREE (04, 07) -/

/-- STATION ENABLE takes a DISABLED station to UNKNOWN with the entry's other fields and the change set as they stand; REVIVE
takes an OFFLINE one to UNKNOWN with quarantine set, no-answer count and pending acknowledgement cleared; DONE with the
code of UNKNOWN; WRONG_STATE and nothing else in any other state (R76, R86, R178). -/
def Obligations.StationEnableAndReviveMakeUnknown : Prop :=
  ∀ (s : State) (a : Address), Ready s → a ≠ 0 → s.argLow = a.val →
    ((s.station a).state = .disabled → ∃ t, exec .stationEnable s = .next t ∧
      t = { s with stationTable := t.stationTable, hostPort := s.answered 6 1 } ∧
      OnlyStation a s t ∧ t.station a = { s.station a with state := .unknown }) ∧
    ((s.station a).state ≠ .disabled →
      exec .stationEnable s = .next { s with hostPort := s.denied 6 .wrongState }) ∧
    ((s.station a).state = .offline → ∃ t, exec .revive s = .next t ∧
      t = { s with stationTable := t.stationTable, hostPort := s.answered 8 1 } ∧
      OnlyStation a s t ∧
      t.station a = { s.station a with state := .unknown, quarantine := 0, noAnswer := 0, ack := .noAck }) ∧
    ((s.station a).state ≠ .offline →
      exec .revive s = .next { s with hostPort := s.denied 8 .wrongState })

/-- STATION DISABLE: WRONG_STATE for a DISABLED station; BUSY while a slot that names it is QUEUED, SENDING, WAITING or
CANCELLING; otherwise DISABLED with no-answer count, hold and pending acknowledgement cleared and the rest as it stands,
DONE with the code of DISABLED (R77, R178). -/
def Obligations.StationDisableNeedsNoLiveSlot : Prop :=
  ∀ (s : State) (a : Address), Ready s → a ≠ 0 → s.argLow = a.val →
    ((s.station a).state = .disabled →
      exec .stationDisable s = .next { s with hostPort := s.denied 7 .wrongState }) ∧
    ((s.station a).state ≠ .disabled →
      (∃ n, (s.slot n).station.toNat = a.val ∧
        ((s.slot n).state = .queued ∨ (s.slot n).state = .sending ∨ (s.slot n).state = .waiting ∨
          (s.slot n).state = .cancelling)) →
      exec .stationDisable s = .next { s with hostPort := s.denied 7 .busy }) ∧
    ((s.station a).state ≠ .disabled →
      (∀ n, (s.slot n).station.toNat = a.val →
        (s.slot n).state = .free ∨ (s.slot n).state = .owned ∨ (s.slot n).state = .done) →
      ∃ t, exec .stationDisable s = .next t ∧
        t = { s with stationTable := t.stationTable, hostPort := s.answered 7 0 } ∧
        OnlyStation a s t ∧
        t.station a =
          { s.station a with
            state := .disabled, noAnswer := 0, holdRemaining := 0, holdDue := false, ack := .noAck })

/-- UNQUARANTINE removes a tag that is in the station's quarantine set, DONE with the tag; NONE and nothing else for a tag
that is not; in every station state (R88). -/
def Obligations.UnquarantineRemovesATag : Prop :=
  ∀ (s : State) (a : Address) (tag : SlotNo), Ready s → a ≠ 0 → s.argLow = a.val → s.argHigh = tag.val →
    ((s.station a).quarantine.getLsbD tag.val = true → ∃ t, exec .unquarantine s = .next t ∧
      t = { s with stationTable := t.stationTable, hostPort := s.answered 9 (BitVec.ofNat 16 tag.val) } ∧
      OnlyStation a s t ∧
      t.station a = { s.station a with quarantine := (t.station a).quarantine } ∧
      ∀ m : SlotNo, (t.station a).quarantine.getLsbD m.val =
        (decide (m ≠ tag) && (s.station a).quarantine.getLsbD m.val)) ∧
    ((s.station a).quarantine.getLsbD tag.val = false →
      exec .unquarantine s = .next { s with hostPort := s.denied 9 .nothing })

/-- EVENT FREE: the record at the head of the named queue leaves it and joins the free list, the free count rises by one, no
word of a record changes, DONE with the record's number; NONE and nothing else for an empty queue; BAD_OPERAND for a queue
operand other than A or B; BUSY during the sweep (R131). -/
def Obligations.EventFreeFreesTheHead : Prop :=
  ∀ s : State, s.pins.reset = false →
    (∀ r rest, s.hostPort.sweep = false → PoolPartition s → s.argLow = 0 → s.eventPool.queueA = r :: rest →
      ∃ t, exec .eventFree s = .next t ∧
      t = { s with
            eventPool := { s.eventPool with queueA := rest, free := t.eventPool.free },
            hostPort := s.answered 10 (BitVec.ofNat 16 r.val) } ∧
      (∀ x, x ∈ t.eventPool.free ↔ x = r ∨ x ∈ s.eventPool.free) ∧
      t.eventPool.free.length = s.eventPool.free.length + 1) ∧
    (∀ r rest, s.hostPort.sweep = false → PoolPartition s → s.argLow = 1 → s.eventPool.queueB = r :: rest →
      ∃ t, exec .eventFree s = .next t ∧
      t = { s with
            eventPool := { s.eventPool with queueB := rest, free := t.eventPool.free },
            hostPort := s.answered 10 (BitVec.ofNat 16 r.val) } ∧
      (∀ x, x ∈ t.eventPool.free ↔ x = r ∨ x ∈ s.eventPool.free) ∧
      t.eventPool.free.length = s.eventPool.free.length + 1) ∧
    (s.hostPort.sweep = false →
      s.argLow = 0 ∧ s.eventPool.queueA = [] ∨ s.argLow = 1 ∧ s.eventPool.queueB = [] →
      exec .eventFree s = .next { s with hostPort := s.denied 10 .nothing }) ∧
    (s.hostPort.sweep = false → 1 < s.argLow →
      exec .eventFree s = .next { s with hostPort := s.denied 10 .badOperand }) ∧
    (s.hostPort.sweep = true → exec .eventFree s = .next { s with hostPort := s.denied 10 .busy })

/-! ## Writes of the registers (08, 09, 10) -/

/-- CONTROL written with RUN 1 and no chip-reset bit: RUN and the interrupt enable are stored; an OFF line enters STARTING,
or FAULT with LINE latched where LFAULT is asserted; during a sweep it stays OFF; STOPPING returns to RUNNING; in STARTING,
RUNNING and FAULT the line stands (R137, R138, R142, R144, R145). The row carries the whole word written (log 5). -/
def Obligations.RunOneStartsTheLine : Prop :=
  ∀ (s : State) (w : Word), s.pins.reset = false → LineConsistent s → w.getLsbD 0 = true → w.getLsbD 2 = false →
    ∃ t, exec (.runWrite1 w) s = .next t ∧
      t = { s with
            hostPort := { s.hostPort with run := true }, completionUnit := t.completionUnit,
            lineEngine := t.lineEngine, lineScheduler := t.lineScheduler } ∧
      (if s.lineEngine.state = .off ∧ s.hostPort.sweep = false then
        t.lineScheduler = { s.lineScheduler with burst := 0 } ∧
        t.lineEngine =
          { s.lineEngine with
            state := if s.pins.lfault then .fault else .starting, echoCount := 0, gapPassed := false } ∧
        t.completionUnit =
          { s.completionUnit with
            interruptEnable := w.getLsbD 1,
            causes :=
              { s.completionUnit.causes with line := s.completionUnit.causes.line || s.pins.lfault } }
      else
        t.lineScheduler = s.lineScheduler ∧
        t.lineEngine =
          { s.lineEngine with
            state := if s.lineEngine.state = .stopping then .running else s.lineEngine.state } ∧
        t.completionUnit = { s.completionUnit with interruptEnable := w.getLsbD 1 })

/-- CONTROL written with RUN 0 and no chip-reset bit: RUN and the interrupt enable are stored; STARTING goes OFF with LINE
latched; RUNNING goes OFF, or STOPPING with an exchange in flight, which stands; FAULT goes OFF; OFF and STOPPING stand;
only the move from STARTING latches LINE (R137, R140, R141, R142, R144, R151). The row carries the whole word written
(log 5). -/
def Obligations.RunZeroStopsTheLine : Prop :=
  ∀ (s : State) (w : Word), s.pins.reset = false → w.getLsbD 0 = false → w.getLsbD 2 = false →
    exec (.runWrite0 w) s = .next
      { s with
        hostPort := { s.hostPort with run := false }
        lineEngine :=
          { s.lineEngine with
            state :=
              match s.lineEngine.state with
              | .starting => .off
              | .running => if s.lineScheduler.exchange = none then .off else .stopping
              | .fault => .off
              | .off => .off
              | .stopping => .stopping }
        completionUnit :=
          { s.completionUnit with
            interruptEnable := w.getLsbD 1
            causes :=
              { s.completionUnit.causes with
                line := s.completionUnit.causes.line || decide (s.lineEngine.state = .starting) } } }

/-- INTR is asserted exactly while RESET is deasserted, the interrupt enable is 1 and a cause is latched or active whose own
enable is 1 (R161). CONTROL written for the interrupt enable stores the enable and the RUN value it carries; with a RUN value
that calls for no move of the line nothing else changes, and otherwise it is the RUN write of that value (R137; log 5). -/
def Obligations.IntrFollowsCausesAndEnables : Prop :=
  (∀ s : State, s.intr = true ↔ s.pins.reset = false ∧ s.completionUnit.interruptEnable = true ∧
    ((s.completionUnit.enables.getLsbD 0 = true ∧ s.completionUnit.causes.complete = true) ∨
     (s.completionUnit.enables.getLsbD 1 = true ∧ s.eventPool.queueA ≠ []) ∨
     (s.completionUnit.enables.getLsbD 2 = true ∧ s.eventPool.queueB ≠ []) ∨
     (s.completionUnit.enables.getLsbD 3 = true ∧ s.completionUnit.causes.alert = true) ∨
     (s.completionUnit.enables.getLsbD 4 = true ∧ s.stationTable.changes ≠ 0) ∨
     (s.completionUnit.enables.getLsbD 5 = true ∧ s.completionUnit.causes.line = true) ∨
     (s.completionUnit.enables.getLsbD 6 = true ∧ s.completionUnit.causes.lineError = true) ∨
     (s.completionUnit.enables.getLsbD 7 = true ∧ s.completionUnit.causes.stray = true) ∨
     (s.completionUnit.enables.getLsbD 8 = true ∧ s.completionUnit.causes.refused = true) ∨
     (s.completionUnit.enables.getLsbD 9 = true ∧ s.completionUnit.causes.initDone = true))) ∧
  ∀ (s : State) (w : Word), s.pins.reset = false → w.getLsbD 2 = false →
    (w.getLsbD 0 = true ∧
        (s.lineEngine.state = .starting ∨ s.lineEngine.state = .running ∨ s.lineEngine.state = .fault) ∨
      w.getLsbD 0 = false ∧ (s.lineEngine.state = .off ∨ s.lineEngine.state = .stopping) →
      exec (.interruptEnableWrite w) s = .next
        { s with
          hostPort := { s.hostPort with run := w.getLsbD 0 },
          completionUnit := { s.completionUnit with interruptEnable := w.getLsbD 1 } }) ∧
    (w.getLsbD 0 = true → exec (.interruptEnableWrite w) s = exec (.runWrite1 w) s) ∧
    (w.getLsbD 0 = false → exec (.interruptEnableWrite w) s = exec (.runWrite0 w) s)

/-- A write of CAUSE clears the latched causes written as ones, acts on nothing else but, where it clears a latched
COMPLETE, the coalescing timer: stopped as it was with an empty queue; COMPLETE latched again and the timer stopped at or
above the threshold or with holdoff 0; otherwise the timer restarted at the holdoff (R157, R158). -/
def Obligations.CauseWriteClearsLatchedCauses : Prop :=
  ∀ (s : State) (w : Word), s.pins.reset = false →
    ∃ t, exec (.causeWrite w) s = .next t ∧
      t = { s with
            completionUnit :=
              { s.completionUnit with
                timer := t.completionUnit.timer,
                causes :=
                  { complete := t.completionUnit.causes.complete,
                    alert := s.completionUnit.causes.alert && !w.getLsbD 3,
                    line := s.completionUnit.causes.line && !w.getLsbD 5,
                    lineError := s.completionUnit.causes.lineError && !w.getLsbD 6,
                    stray := s.completionUnit.causes.stray && !w.getLsbD 7,
                    refused := s.completionUnit.causes.refused && !w.getLsbD 8,
                    initDone := s.completionUnit.causes.initDone && !w.getLsbD 9 } } } ∧
      (if w.getLsbD 0 = true ∧ s.completionUnit.causes.complete = true then
        if s.completionUnit.queue = [] then
          t.completionUnit.causes.complete = false ∧ t.completionUnit.timer = s.completionUnit.timer
        else if s.completionUnit.threshold ≤ s.completionUnit.queue.length ∨ s.completionUnit.holdoff = 0 then
          t.completionUnit.causes.complete = true ∧ t.completionUnit.timer = none
        else
          t.completionUnit.causes.complete = false ∧
          t.completionUnit.timer = some s.completionUnit.holdoff
      else
        t.completionUnit.causes.complete = s.completionUnit.causes.complete ∧
        t.completionUnit.timer = s.completionUnit.timer)

/-- A one written to the bit of an address in STATION CHANGES LOW or HIGH removes it from the change set, and nothing else
changes; the bit of address a stands at bit a of LOW, or bit a − 16 of HIGH (R89). -/
def Obligations.StationChangesWriteRemovesAddresses : Prop :=
  ∀ (s : State) (high : Bool) (w : Word), s.pins.reset = false →
    ∃ t, exec (.stationChangesWrite high w) s = .next t ∧
      t = { s with stationTable := { s.stationTable with changes := t.stationTable.changes } } ∧
      ∀ a : Address, t.stationTable.changes.getLsbD a.val =
        (s.stationTable.changes.getLsbD a.val &&
          !(w.getLsbD (a.val % 16) && decide (high = decide (16 ≤ a.val))))

/-- A write of COALESCE with a threshold of 1–32 replaces both fields, and latches COMPLETE and stops the timer if the
threshold is at or below the queue's length; any other threshold is refused whole; a read returns the fields (R154,
R155). -/
def Obligations.CoalesceWriteSetsThresholdAndHoldoff : Prop :=
  ∀ (s : State) (w : Word), s.pins.reset = false →
    ((w.toNat % 64 = 0 ∨ 32 < w.toNat % 64) → exec (.coalesceWrite w) s = .next s.refused) ∧
    (1 ≤ w.toNat % 64 → w.toNat % 64 ≤ 32 → ∃ t, exec (.coalesceWrite w) s = .next t ∧
      t = { s with
            completionUnit :=
              { s.completionUnit with
                threshold := w.toNat % 64, holdoff := w.toNat / 256,
                causes :=
                  { s.completionUnit.causes with
                    complete := s.completionUnit.causes.complete ||
                      decide (w.toNat % 64 ≤ s.completionUnit.queue.length) },
                timer :=
                  if w.toNat % 64 ≤ s.completionUnit.queue.length then none else s.completionUnit.timer } } ∧
      t.readRegister 21 = w &&& 0xFF3F)

/-- The other tested registers: LINE RATE and ANSWER WINDOW are written only with the line OFF and a legal value, STATION
LIMITS, HOLDOFF and CLASSIFIER SETUP with legal fields in every line state; the write replaces every field and reads back
with its unplaced bits 0, or is refused whole and reported (R59, R84, R87, R111, R149, R163, R164, R175). -/
def Obligations.TestedRegisterWritesAcceptOrRefuseWhole : Prop :=
  ∀ (s : State) (w : Word), s.pins.reset = false →
    (if s.lineEngine.state = .off ∧ w.toNat % 8 ≤ 3 then
      ∃ t, exec (.registerWrite 17 w) s = .next t ∧
        t = { s with lineEngine := { s.lineEngine with rate := t.lineEngine.rate } } ∧
        t.readRegister 17 = w &&& 0x0007
     else exec (.registerWrite 17 w) s = .next s.refused) ∧
    (if s.lineEngine.state = .off ∧ 32 ≤ w.toNat % 1024 then
      ∃ t, exec (.registerWrite 18 w) s = .next t ∧
        t = { s with lineEngine := { s.lineEngine with answerWindow := w.toNat % 1024 } } ∧
        t.readRegister 18 = w &&& 0x03FF
     else exec (.registerWrite 18 w) s = .next s.refused) ∧
    (if 1 ≤ w.toNat % 16 ∧ 1 ≤ w.toNat / 256 % 16 ∧ w.toNat / 256 % 16 ≤ 8 then
      ∃ t, exec (.registerWrite 19 w) s = .next t ∧
        t = { s with
              stationTable := { s.stationTable with noAnswerLimit := w.toNat % 16 },
              lineScheduler := { s.lineScheduler with burstLimit := w.toNat / 256 % 16 } } ∧
        t.readRegister 19 = w &&& 0x0F0F
     else exec (.registerWrite 19 w) s = .next s.refused) ∧
    (if 1 ≤ w.toNat ∧ w.toNat ≤ 255 then
      ∃ t, exec (.registerWrite 20 w) s = .next t ∧
        t = { s with stationTable := { s.stationTable with holdoff := w.toNat } } ∧ t.readRegister 20 = w
     else exec (.registerWrite 20 w) s = .next s.refused) ∧
    (if w.toNat / 16 % 4 ≤ 2 then
      ∃ t, exec (.registerWrite 25 w) s = .next t ∧
        t = { s with
              classifier :=
                { s.classifier with enable := w.getLsbD 0, defaultAction := t.classifier.defaultAction } } ∧
        t.readRegister 25 = w &&& 0x0031
     else exec (.registerWrite 25 w) s = .next s.refused)

/-- CAUSE ENABLE, COMMAND ARG and WINDOW ADDRESS accept every word and read it back with their unplaced bits 0; a write of
STATUS with a one at the REFUSED flag clears the flag, not the cause, and no other bit of it acts; the read-only registers
and the empty offsets ignore a write (R160, R163, R164, R165, R168, R175). The row of register writes takes every select, those
of other rows included (log 6). -/
def Obligations.AcceptedAndIgnoredRegisterWrites : Prop :=
  ∀ (s : State) (w : Word), s.pins.reset = false →
    (∃ t, exec (.registerWrite 4 w) s = .next t ∧
      t = { s with completionUnit := { s.completionUnit with enables := t.completionUnit.enables } } ∧
      t.readRegister 4 = w &&& 0x03FF) ∧
    (∃ t, exec (.registerWrite 6 w) s = .next t ∧
      t = { s with hostPort := { s.hostPort with commandArg := w } } ∧ t.readRegister 6 = w) ∧
    (∃ t, exec (.registerWrite 15 w) s = .next t ∧
      t = { s with hostPort := { s.hostPort with windowAddress := t.hostPort.windowAddress } } ∧
      t.hostPort.windowAddress.toNat = w.toNat % 4096 ∧ t.readRegister 15 = w &&& 0x0FFF) ∧
    (w.getLsbD 4 = true →
      exec (.refusedFlagClear w) s = .next { s with hostPort := { s.hostPort with refusedFlag := false } }) ∧
    (w.getLsbD 4 = false → exec (.registerWrite 2 w) s = .next s) ∧
    ∀ select : BitVec 5,
      select.toNat ∈ [0, 7, 8, 9, 10, 11, 12, 22, 23, 24, 26, 27, 28, 29, 30, 31] →
      exec (.registerWrite select w) s = .next s

/-! ## The window (10.3, 11.4) -/

/-- A read of WINDOW DATA is refused during the sweep and in an empty range, and drives 0; every other read drives the word at
the window address as it stands. Either way the window address steps on by one and wraps (R168, R169). The word driven is held
in `pins.dataOut` (log 7). -/
def Obligations.WindowReadDrivesTheWord : Prop :=
  ∀ s : State, s.pins.reset = false →
    if s.hostPort.sweep = true ∨
        (0xB40 ≤ s.hostPort.windowAddress.toNat ∧ s.hostPort.windowAddress.toNat < 0xC00) ∨
        0xFC0 ≤ s.hostPort.windowAddress.toNat then
      exec .windowDataRead s = .next { s.refused.windowStepped with pins := { s.pins with dataOut := 0 } }
    else
      ∃ w, s.tableRead s.hostPort.windowAddress = some w ∧
        exec .windowDataRead s = .next { s.windowStepped with pins := { s.pins with dataOut := w } }

/-- Where each field of a slot record, a station entry, a match entry and an event record stands in table space: the header
words bit by bit and the payload words, at 80n + k, A00h + 8a + k, B00h + 8i + k and C00h + 40r + k; bits of no field read
0, and so do the eight words A00h–A07h, whatever entry 0 of the model's table holds (R74, R177, 11.4; log 21). -/
def Obligations.TableSpaceShowsTheRecords : Prop :=
  ∀ (s : State) (addr : BitVec 12),
    (∀ n : SlotNo,
      (∀ k : Fin 16, addr.toNat = 80 * n.val + k.val → s.tableRead addr = some
        (match k.val with
         | 0 => 0#9 ++ BitVec.ofBool (s.slot n).cancelInFlight ++ BitVec.ofBool (s.slot n).deadlineExpired ++
             BitVec.ofBool (s.slot n).hostCancel ++ 0#1 ++ BitVec.ofNat 3 (s.slot n).state.code
         | 1 => (s.slot n).station
         | 2 => (s.slot n).priority
         | 3 => (s.slot n).retryLimit
         | 4 => (s.slot n).deadline
         | 5 => (s.slot n).requestLength
         | 6 => (s.slot n).postNumber
         | 7 => 0#6 ++ BitVec.ofNat 2 (s.slot n).cancelAttempts ++ 0#4 ++ BitVec.ofNat 4 (s.slot n).attempts
         | 8 => 0#12 ++ BitVec.ofNat 4 (s.slot n).status.code
         | 9 => 0#8 ++ (s.slot n).replyStatus
         | 10 => 0#9 ++ BitVec.ofNat 7 (s.slot n).replyLength
         | 11 => (s.slot n).completionTime
         | 12 => (s.slot n).deadlineRemaining
         | _ => 0)) ∧
      ∀ k : Fin 32,
        (addr.toNat = 80 * n.val + 16 + k.val → s.tableRead addr = some (s.slot n).request[k]) ∧
        (addr.toNat = 80 * n.val + 48 + k.val → s.tableRead addr = some (s.slot n).reply[k])) ∧
    (∀ (a : Address) (k : Fin 8), addr.toNat = 0xA00 + 8 * a.val + k.val → s.tableRead addr = some
      (if a = 0 then 0
       else match k.val with
         | 0 => 0#14 ++ BitVec.ofNat 2 (s.station a).state.code
         | 1 => 0#4 ++ BitVec.ofNat 4 (s.station a).creditLimit ++ 0#6 ++
             BitVec.ofNat 2 (s.station a).pollMode.code
         | 2 => 0#4 ++ BitVec.ofNat 4 (s.station a).noAnswer ++ 0#4 ++ BitVec.ofNat 4 (s.station a).outstanding
         | 3 => 0#8 ++ BitVec.ofNat 8 (s.station a).holdRemaining
         | 4 => match (s.station a).ack with
             | .noAck => 0
             | .reply tag => 0#6 ++ 1#2 ++ 0#3 ++ BitVec.ofNat 5 tag.val
             | .event => 0x0200
         | 5 => (s.station a).quarantine.extractLsb' 0 16
         | 6 => (s.station a).quarantine.extractLsb' 16 16
         | _ => 0)) ∧
    (∀ (i : EntryNo) (k : Fin 8), addr.toNat = 0xB00 + 8 * i.val + k.val → s.tableRead addr = some
      (match k.val with
       | 0 => 0#3 ++ BitVec.ofBool s.classifier.table[i].alert ++ 0#2 ++
           BitVec.ofNat 2 s.classifier.table[i].action.code ++ 0#2 ++
           BitVec.ofNat 2 s.classifier.table[i].path.code ++ 0#1 ++
           BitVec.ofBool s.classifier.table[i].invert ++ BitVec.ofBool s.classifier.table[i].joinPrevious ++
           BitVec.ofBool s.classifier.table[i].enabled
       | 1 => BitVec.ofNat 8 s.classifier.table[i].offset.val ++
           BitVec.ofNat 8 s.classifier.table[i].stationFilter.val
       | 2 => s.classifier.table[i].byteMask
       | 3 => s.classifier.table[i].signature
       | _ => 0)) ∧
    ∀ r : RecordNo,
      (∀ k : Fin 8, addr.toNat = 0xC00 + 40 * r.val + k.val → s.tableRead addr = some
        (match k.val with
         | 0 => 0#4 ++ BitVec.ofBool s.eventPool.records[r].alert ++
             BitVec.ofNat 1 s.eventPool.records[r].queue.code ++
             BitVec.ofBool s.eventPool.records[r].repeatFlag ++
             BitVec.ofBool s.eventPool.records[r].relayed ++ 0#3 ++
             BitVec.ofNat 5 s.eventPool.records[r].station.val
         | 1 => 0#1 ++ BitVec.ofNat 7 s.eventPool.records[r].payloadLength ++ 0#4 ++
             BitVec.ofNat 4 s.eventPool.records[r].chain
         | 2 => 0#6 ++ BitVec.ofNat 2 s.eventPool.records[r].hopCount ++ s.eventPool.records[r].origin
         | 3 => s.eventPool.records[r].arrivalTime
         | _ => 0)) ∧
      ∀ k : Fin 32, addr.toNat = 0xC00 + 40 * r.val + 8 + k.val →
        s.tableRead addr = some s.eventPool.records[r].payload[k]

/-- The accepted writes of WINDOW DATA: a host word of an OWNED slot, stored as written; the configuration word of a station
with a poll mode code and a credit limit that are legal; words 0–3 of a match entry with legal fields. The word reads back
with its unplaced bits 0, every other word of table space and the rest of the state stand, and the window address steps on
(R24, R73, R109, R168, R170, R177). -/
def Obligations.WindowWriteReplacesTheWord : Prop :=
  ∀ (s : State) (w placed : Word), Ready s →
    ((∃ (n : SlotNo) (k : Nat), (s.slot n).state = .owned ∧ (1 ≤ k ∧ k ≤ 5 ∨ 16 ≤ k ∧ k ≤ 47) ∧
        s.hostPort.windowAddress.toNat = 80 * n.val + k ∧ placed = w) ∨
     (∃ a : Address, a ≠ 0 ∧ s.hostPort.windowAddress.toNat = 0xA00 + 8 * a.val + 1 ∧ w.toNat % 4 ≤ 2 ∧
        1 ≤ w.toNat / 256 % 16 ∧ w.toNat / 256 % 16 ≤ 8 ∧ placed = w &&& 0x0F03) ∨
     (∃ i : EntryNo, s.hostPort.windowAddress.toNat = 0xB00 + 8 * i.val ∧ w.toNat / 16 % 4 ≤ 2 ∧
        w.toNat / 256 % 4 ≤ 2 ∧ placed = w &&& 0x1337) ∨
     (∃ i : EntryNo, s.hostPort.windowAddress.toNat = 0xB00 + 8 * i.val + 1 ∧ w.toNat % 256 ≤ 31 ∧
        w.toNat / 256 ≤ 63 ∧ placed = w) ∨
     ∃ i : EntryNo, (s.hostPort.windowAddress.toNat = 0xB00 + 8 * i.val + 2 ∨
        s.hostPort.windowAddress.toNat = 0xB00 + 8 * i.val + 3) ∧ placed = w) →
    ∃ t, exec (.windowDataWrite w) s = .next t ∧
      t = { s.windowStepped with
            slotTable := t.slotTable, stationTable := { s.stationTable with entries := t.stationTable.entries },
            classifier := { s.classifier with table := t.classifier.table } } ∧
      t.slotTable.postCounter = s.slotTable.postCounter ∧
      t.tableRead s.hostPort.windowAddress = some placed ∧
      (∀ addr, addr ≠ s.hostPort.windowAddress → t.tableRead addr = s.tableRead addr) ∧
      (∀ a, (t.station a).holdDue = (s.station a).holdDue)

/-- The refused writes of WINDOW DATA, the nine cases of R170: nothing changes but the report of the refusal and the step of
the window address (R164, R168, R170). -/
def Obligations.WindowWriteRefusals : Prop :=
  ∀ (s : State) (w : Word), s.pins.reset = false →
    (s.hostPort.sweep = true ∨
     (0xB40 ≤ s.hostPort.windowAddress.toNat ∧ s.hostPort.windowAddress.toNat < 0xC00) ∨
     (∃ (n : SlotNo) (k : Nat), (1 ≤ k ∧ k ≤ 5 ∨ 16 ≤ k ∧ k ≤ 47) ∧
        s.hostPort.windowAddress.toNat = 80 * n.val + k ∧ (s.slot n).state ≠ .owned) ∨
     (∃ (n : SlotNo) (k : Nat), (k = 0 ∨ 6 ≤ k ∧ k ≤ 15 ∨ 48 ≤ k ∧ k ≤ 79) ∧
        s.hostPort.windowAddress.toNat = 80 * n.val + k) ∨
     (∃ (a : Address) (k : Fin 8), (a = 0 ∨ k ≠ 1) ∧
        s.hostPort.windowAddress.toNat = 0xA00 + 8 * a.val + k.val) ∨
     (∃ a : Address, s.hostPort.windowAddress.toNat = 0xA00 + 8 * a.val + 1 ∧
        (w.toNat % 4 = 3 ∨ w.toNat / 256 % 16 = 0 ∨ 8 < w.toNat / 256 % 16)) ∨
     (∃ i : EntryNo, s.hostPort.windowAddress.toNat = 0xB00 + 8 * i.val ∧
        (w.toNat / 16 % 4 = 3 ∨ w.toNat / 256 % 4 = 3)) ∨
     (∃ i : EntryNo, s.hostPort.windowAddress.toNat = 0xB00 + 8 * i.val + 1 ∧
        (31 < w.toNat % 256 ∨ 63 < w.toNat / 256)) ∨
     (∃ (i : EntryNo) (k : Fin 8), 4 ≤ k ∧ s.hostPort.windowAddress.toNat = 0xB00 + 8 * i.val + k.val) ∨
     0xC00 ≤ s.hostPort.windowAddress.toNat) →
    exec (.windowDataWrite w) s = .next s.refused.windowStepped

/-! ## The timers (R87, R96, R148, R156) -/

/-- The millisecond step, with no expiry of an earlier step still waiting: the clock steps and wraps; each WAITING slot's
count above 0 falls by one; each running hold falls by one, its last millisecond making its expiry due (log 12); a running
coalescing timer falls by one; nothing else changes: what runs out is taken by a command of its own (logs 11, 13). An expiry
still waiting is taken first (log 14). -/
def Obligations.ClockStepCountsDown : Prop :=
  ∀ s : State, s.pins.reset = false →
    ((∀ n, ¬ ((s.slot n).state = .waiting ∧ (s.slot n).deadline ≠ 0 ∧ (s.slot n).deadlineRemaining = 0)) →
      (∀ a, (s.station a).holdDue = false) → s.completionUnit.timer ≠ some 0 →
      ∃ t, exec .lineClockStep s = .next t ∧
        t = { s with
              slotTable := t.slotTable, stationTable := { s.stationTable with entries := t.stationTable.entries },
              completionUnit :=
                { s.completionUnit with timer := s.completionUnit.timer.map fun k => k - 1 },
              lineEngine := { s.lineEngine with clock := s.lineEngine.clock + 1 } } ∧
        t.slotTable.postCounter = s.slotTable.postCounter ∧
        (∀ n, t.slot n =
          { s.slot n with
            deadlineRemaining :=
              if (s.slot n).state = .waiting ∧ (s.slot n).deadlineRemaining ≠ 0 then
                (s.slot n).deadlineRemaining - 1
              else (s.slot n).deadlineRemaining }) ∧
        ∀ a, t.station a =
          if (s.station a).holdRemaining = 1 then { s.station a with holdDue := true }
          else { s.station a with holdRemaining := (s.station a).holdRemaining - 1 }) ∧
    ∀ s1 s2 s3, exec .deadlineExpiry s = .next s1 → exec .holdExpiry s1 = .next s2 →
      exec .coalescingTimerExpiry s2 = .next s3 → exec .lineClockStep s = exec .lineClockStep s3

/-- The expiries. Deadlines: every WAITING slot whose deadline has run out becomes CANCELLING with deadline-expired set, and
all join the tail of the Cancel List in increasing order of slot number, as one event (R40, R96; log 11). Holds: one that has
run out is at 0 and nothing else changes (R87; log 12). The coalescing timer: at 0 it latches COMPLETE and stops, and a timer
not at 0 does nothing (R156; log 13). -/
def Obligations.ExpiriesAreTaken : Prop :=
  ∀ s : State,
    (∃ t, exec .deadlineExpiry s = .next t ∧
      t = { s with
            slotTable := t.slotTable,
            cancelList := s.cancelList ++ (List.finRange 32).filter fun n =>
              (s.slot n).state = .waiting ∧ (s.slot n).deadline ≠ 0 ∧ (s.slot n).deadlineRemaining = 0 } ∧
      t.slotTable.postCounter = s.slotTable.postCounter ∧
      ∀ n, t.slot n =
        if (s.slot n).state = .waiting ∧ (s.slot n).deadline ≠ 0 ∧ (s.slot n).deadlineRemaining = 0 then
          { s.slot n with state := .cancelling, deadlineExpired := true }
        else s.slot n) ∧
    (∃ t, exec .holdExpiry s = .next t ∧
      t = { s with stationTable := { s.stationTable with entries := t.stationTable.entries } } ∧
      ∀ a, t.station a =
        if (s.station a).holdDue = true then { s.station a with holdRemaining := 0, holdDue := false }
        else s.station a) ∧
    (s.completionUnit.timer = some 0 →
      exec .coalescingTimerExpiry s = .next
        { s with
          completionUnit :=
            { s.completionUnit with
              timer := none, causes := { s.completionUnit.causes with complete := true } } }) ∧
    (s.completionUnit.timer ≠ some 0 → exec .coalescingTimerExpiry s = .next s)

/-! ## The line (01, 08) -/

/-- The settle passed moves STARTING to RUNNING with the turnaround gap passed (R139); contention during it moves STARTING to
FAULT, with LINE and LINE_ERROR latched and the record of kind ECHO, station 0 and the clock, the echo count unchanged
(R140). In any other line state neither does anything (log 2). -/
def Obligations.SettleEndsInRunningOrFault : Prop :=
  ∀ s : State,
    (s.lineEngine.state = .starting →
      exec .settleEnd s = .next
        { s with lineEngine := { s.lineEngine with state := .running, gapPassed := true } }) ∧
    (s.lineEngine.state = .starting → LineConsistent s →
      exec .contention s = .next
        { s with
          lineEngine :=
            { s.lineEngine with
              state := .fault, error := { kind := .echo, station := 0, time := s.lineEngine.clock } }
          completionUnit := s.completionUnit.lineErrorLatched.lineLatched }) ∧
    (s.lineEngine.state ≠ .starting → exec .settleEnd s = .next s ∧ exec .contention s = .next s)

/-- LFAULT asserted in STARTING, RUNNING or STOPPING moves the line to FAULT with LINE latched. The exchange in flight is
ended in the same change: an outcome already decided stands, a frame completely sent has no answer, and one not completely
sent an echo fault, with no error record and the echo count unchanged. In OFF and FAULT, and on its release, LFAULT only
takes its level (R143, R145, R151). The command carries the level that the input takes (log 8). -/
def Obligations.LfaultMovesTheLineToFault : Prop :=
  ∀ s : State,
    exec (.lfault false) s = .next { s with pins := { s.pins with lfault := false } } ∧
    (s.lineEngine.state = .off ∨ s.lineEngine.state = .fault →
      exec (.lfault true) s = .next { s with pins := { s.pins with lfault := true } }) ∧
    (s.lineEngine.state = .starting ∨ s.lineEngine.state = .running ∨ s.lineEngine.state = .stopping →
      (s.lineScheduler.exchange = none →
        exec (.lfault true) s = .next
          { s with
            pins := { s.pins with lfault := true }, lineEngine := { s.lineEngine with state := .fault },
            completionUnit := s.completionUnit.lineLatched }) ∧
      ∀ x o, s.lineScheduler.exchange = some x →
        (x.phase = .decided o ∨ (x.phase = .windowOpen ∨ x.phase = .receiving) ∧ o = .noAnswer ∨
          x.phase = .sending ∧ o = .echoFault) →
        exec (.lfault true) s = exec .outcomeTaken
          { s.decidedAs x o with
            pins := { s.pins with lfault := true }, lineEngine := { s.lineEngine with state := .fault },
            completionUnit := s.completionUnit.lineLatched })

/-- The stages of an exchange on the line. A frame completely sent opens the answer window, sets the echo count to 0 and
starts the turnaround gap (R4, R9, R146). A start bit in bit-time 1 to ANSWER WINDOW of the window begins an answer, and one
outside it does not (R10); that the bit-times are counted from 1, and a bit-time 0 has no effect, is read from R10 (log 17).
The window's close with no answer begun decides no answer, and the gap has passed (R4, R10). The gap's end sets it passed, but
not while a frame goes out or an answer comes in (R4); window and gap end when their commands come (log 16). A run outside any
window changes nothing (R10). An event that the exchange's phase does not bring changes nothing (log 2).

DE and TXD (R1, R9, R22): in OFF and FAULT DE is released and TXD marking; in STARTING DE is asserted and TXD marking; in
RUNNING and STOPPING DE is asserted while a frame goes out, whose octets TXD carries one after the other, ten bits to an octet
(log 19): the start bit a space, the eight data bits least significant first, the stop bit a mark, and marking after the last;
with no frame going out DE is released and TXD marking. -/
def Obligations.StagesOfAnExchange : Prop :=
  ∀ s : State,
    (∀ run, exec (.ignoredRun run) s = .next s) ∧
    (s.lineScheduler.exchange = none →
      exec .turnaroundGapEnd s = .next { s with lineEngine := { s.lineEngine with gapPassed := true } } ∧
      exec .frameCompletelySent s = .next s ∧ exec .answerWindowClose s = .next s ∧
      ∀ bit run, exec (.answerBegins bit) s = .next s ∧ exec (.echoFault bit) s = .next s ∧
        exec (.answer run) s = .next s) ∧
    (∀ x, s.lineScheduler.exchange = some x →
      (x.phase = .sending →
        exec .frameCompletelySent s = .next
          { s with
            lineScheduler := { s.lineScheduler with exchange := some { x with phase := .windowOpen } }
            lineEngine := { s.lineEngine with echoCount := 0, gapPassed := false } }) ∧
      (x.phase = .windowOpen → ∀ bit, 1 ≤ bit → bit ≤ s.lineEngine.answerWindow →
        exec (.answerBegins bit) s = .next
          { s with lineScheduler := { s.lineScheduler with exchange := some { x with phase := .receiving } } }) ∧
      (∀ bit, bit = 0 ∨ s.lineEngine.answerWindow < bit → exec (.answerBegins bit) s = .next s) ∧
      (x.phase = .windowOpen →
        exec .answerWindowClose s = .next
          { s.decidedAs x .noAnswer with lineEngine := { s.lineEngine with gapPassed := true } }) ∧
      (x.phase = .windowOpen ∨ (∃ o, x.phase = .decided o) →
        exec .turnaroundGapEnd s = .next { s with lineEngine := { s.lineEngine with gapPassed := true } }) ∧
      (x.phase = .sending ∨ x.phase = .receiving → exec .turnaroundGapEnd s = .next s) ∧
      (x.phase ≠ .sending → exec .frameCompletelySent s = .next s ∧ ∀ bit, exec (.echoFault bit) s = .next s) ∧
      (x.phase ≠ .windowOpen →
        exec .answerWindowClose s = .next s ∧ ∀ bit, exec (.answerBegins bit) s = .next s) ∧
      (x.phase ≠ .windowOpen ∧ x.phase ≠ .receiving → ∀ run, exec (.answer run) s = .next s)) ∧
    (s.lineEngine.state = .off ∨ s.lineEngine.state = .fault → s.de = false ∧ ∀ i, s.txd i = true) ∧
    (s.lineEngine.state = .starting → s.de = true ∧ ∀ i, s.txd i = true) ∧
    (s.lineEngine.state = .running ∨ s.lineEngine.state = .stopping →
      (∀ x, s.lineScheduler.exchange = some x → x.phase = .sending →
        s.de = true ∧
        (∀ k : Fin x.frame.length,
          s.txd (10 * k.val) = false ∧
          (∀ j : Fin 8, s.txd (10 * k.val + 1 + j.val) = x.frame[k].getLsbD j.val) ∧
          s.txd (10 * k.val + 9) = true) ∧
        ∀ i, 10 * x.frame.length ≤ i → s.txd i = true) ∧
      ((∀ x, s.lineScheduler.exchange = some x → x.phase ≠ .sending) → s.de = false ∧ ∀ i, s.txd i = true))

/-- An echo mismatch in a frame going out abandons it: the outcome is echo fault, the line error record is written with kind
ECHO, LINE_ERROR is latched, the turnaround gap starts anew and the consecutive echo count rises (R4, R14, R146). At a count
of 3 the line moves to FAULT with LINE latched, and the outcome is taken in the same change (R143, R146). The command carries
the number of the bit, ten bits to an octet; a number beyond the frame's last stop bit is none of its bits and has no effect
(log 19). -/
def Obligations.EchoFaultAbandonsTheFrame : Prop :=
  ∀ (s : State) (x : Exchange) (bit : Nat), s.lineScheduler.exchange = some x → x.phase = .sending →
    (10 * x.frame.length ≤ bit → exec (.echoFault bit) s = .next s) ∧
    (bit < 10 * x.frame.length → s.lineEngine.echoCount < 2 →
      exec (.echoFault bit) s = .next
        { s.decidedAs x .echoFault with
          lineEngine :=
            { s.lineEngine with
              echoCount := s.lineEngine.echoCount + 1, gapPassed := false,
              error := { kind := .echo, station := x.station, time := s.lineEngine.clock } }
          completionUnit := s.completionUnit.lineErrorLatched }) ∧
    (bit < 10 * x.frame.length → s.lineEngine.echoCount = 2 →
      exec (.echoFault bit) s = exec .outcomeTaken
        { s.decidedAs x .echoFault with
          lineEngine :=
            { s.lineEngine with
              state := .fault, echoCount := 3, gapPassed := false,
              error := { kind := .echo, station := x.station, time := s.lineEngine.clock } }
          completionUnit := s.completionUnit.lineErrorLatched.lineLatched })

/-- A run that begins with an intact frame which is a valid answer decides that answer, with the fields of R7, an EVENT
classified at that moment; the turnaround gap starts anew, no error is recorded, and nothing else changes (R3, R4, R5, R7,
R8, R13, R112). With the window still open the answer begins with this run (log 18). -/
def Obligations.AValidAnswerIsDecided : Prop :=
  ∀ (s : State) (x : Exchange) (run : List RxOctet) (f : AnswerFrame) (a : Answer),
    s.lineScheduler.exchange = some x → x.phase = .receiving ∨ x.phase = .windowOpen → f.Sized → BeginsWith f run →
    ValidAnswer s x.kind x.station f a →
    exec (.answer run) s = .next
      { s.decidedAs x (.answer a) with lineEngine := { s.lineEngine with gapPassed := false } }

/-- A run that begins with an intact frame which breaks one of the eight cases of R12 decides protocol error; any run that
begins with no intact frame (cut short, malformed, or failing its check) decides check error. The line error record is
written with its kind, the station addressed and the clock, LINE_ERROR is latched, and nothing of the answer is kept (R3,
R4, R11, R12, R147). With the window still open the answer begins with this run (log 18). -/
def Obligations.AFaultyAnswerIsDecided : Prop :=
  ∀ (s : State) (x : Exchange) (run : List RxOctet),
    s.lineScheduler.exchange = some x → x.phase = .receiving ∨ x.phase = .windowOpen →
    (∀ f : AnswerFrame, f.Sized → BeginsWith f run → Breach x.kind x.station f →
      exec (.answer run) s = .next
        { s.decidedAs x .protocolError with
          lineEngine :=
            { s.lineEngine with
              gapPassed := false, error := { kind := .protocol, station := x.station, time := s.lineEngine.clock } }
          completionUnit := s.completionUnit.lineErrorLatched }) ∧
    ((∀ f : AnswerFrame, f.Sized → ¬ BeginsWith f run) →
      exec (.answer run) s = .next
        { s.decidedAs x .checkError with
          lineEngine :=
            { s.lineEngine with
              gapPassed := false, error := { kind := .check, station := x.station, time := s.lineEngine.clock } }
          completionUnit := s.completionUnit.lineErrorLatched })

/-! ## The Line Scheduler's choice (03, 3.2 and 3.3) -/

/-- A choice is made only with the line RUNNING, no exchange in flight and the turnaround gap passed (R57). A Cancel List
that is not empty is served first: CANCEL goes out for its head, whose cancel-in-flight flag is set; the burst counter
stands (R41, R58, R60). With nothing to choose the line stays idle (R58). -/
def Obligations.CancelsAreChosenFirst : Prop :=
  ∀ s : State,
    (s.lineEngine.state ≠ .running ∨ s.lineScheduler.exchange ≠ none ∨ s.lineEngine.gapPassed = false →
      exec .lineSchedulerChoice s = .next s) ∧
    (s.lineEngine.state = .running → s.lineScheduler.exchange = none → s.lineEngine.gapPassed = true →
      (∀ (n : SlotNo) (rest : List SlotNo) (a : Address), s.cancelList = n :: rest → n ∉ rest →
        (s.slot n).station.toNat = a.val →
        ∃ t, exec .lineSchedulerChoice s = .next t ∧
          t = { s with
                slotTable := t.slotTable, cancelList := rest,
                lineScheduler :=
                  { s.lineScheduler with
                    exchange := some
                      { kind := .cancel n, station := a, phase := .sending,
                        frame := sealFrame [3, BitVec.ofNat 8 a.val, BitVec.ofNat 8 n.val, 0] } } } ∧
          OnlySlot n s t ∧ t.slot n = { s.slot n with cancelInFlight := true }) ∧
      (s.cancelList = [] → (∀ n, ¬ Eligible s n) → (∀ a, a ≠ 0 → ¬ InRing (s.station a)) →
        exec .lineSchedulerChoice s = .next s))

/-- A REQUEST is chosen for the eligible slot nearest the head of the urgent list, or of the normal list where no urgent slot
is eligible, with the burst counter below its limit (one is added to it) or with no station in the poll ring (it is set to
0). The slot becomes SENDING, its place is held, and the frame carries its station, tag, length and payload, R set when
attempts is above 0 (R6, R25, R36, R52, R54 to R56, R58, R61). -/
def Obligations.RequestsAreChosenByEligibility : Prop :=
  ∀ (s : State) (n : SlotNo) (level : Level) (before after : List Place) (a : Address) (burst : Nat),
    s.lineEngine.state = .running → s.lineScheduler.exchange = none → s.lineEngine.gapPassed = true →
    s.cancelList = [] → (queuedSlots s.dispatchQueue).Nodup →
    s.dispatchQueue = before ++ ⟨level, some n⟩ :: after → Eligible s n → (s.slot n).station.toNat = a.val →
    (∀ p ∈ before, p.level = level → ∀ m, p.slot = some m → ¬ Eligible s m) →
    (level = .normal → ∀ p ∈ s.dispatchQueue, p.level = .urgent → ∀ m, p.slot = some m → ¬ Eligible s m) →
    (s.lineScheduler.burst < s.lineScheduler.burstLimit ∧ burst = s.lineScheduler.burst + 1 ∨
      s.lineScheduler.burstLimit ≤ s.lineScheduler.burst ∧ (∀ b, b ≠ 0 → ¬ InRing (s.station b)) ∧ burst = 0) →
    ∃ t, exec .lineSchedulerChoice s = .next t ∧
      t = { s with
            slotTable := t.slotTable, dispatchQueue := before ++ ⟨level, none⟩ :: after,
            lineScheduler :=
              { s.lineScheduler with
                burst := burst,
                exchange := some
                  { kind := .request n, station := a, phase := .sending,
                    frame := sealFrame
                      ([if (s.slot n).attempts = 0 then 0x01 else 0x11, BitVec.ofNat 8 a.val,
                        BitVec.ofNat 8 n.val, (s.slot n).requestLength.setWidth 8] ++
                        (List.range (s.slot n).requestLength.toNat).map fun i =>
                          if i % 2 = 0 then ((s.slot n).request.toList.getD (i / 2) 0).extractLsb' 0 8
                          else ((s.slot n).request.toList.getD (i / 2) 0).extractLsb' 8 8) } } } ∧
      OnlySlot n s t ∧ t.slot n = { s.slot n with state := .sending }

/-- A POLL is chosen where no cancel waits and either no slot is eligible or the burst has reached its limit: to the ring
station that the search from the address after the rotation pointer finds first. It is ANY with the lowest-numbered free
record reserved where the poll mode is replies-and-events and a record is free, and otherwise REPLY-ONLY; it carries the
station's pending acknowledgement; the pointer is set to the station and the burst counter to 0 (R6, R58, R62, R63). -/
def Obligations.PollsGoRoundTheRing : Prop :=
  ∀ (s : State) (a : Address),
    s.lineEngine.state = .running → s.lineScheduler.exchange = none → s.lineEngine.gapPassed = true →
    s.cancelList = [] → (∀ n, Eligible s n → s.lineScheduler.burstLimit ≤ s.lineScheduler.burst) →
    a ≠ 0 → InRing (s.station a) →
    (∀ b, b ≠ 0 → InRing (s.station b) →
      pollDistance s.stationTable.rotation a ≤ pollDistance s.stationTable.rotation b) →
    ∃ t k, exec .lineSchedulerChoice s = .next t ∧
      t = { s with
            stationTable := { s.stationTable with rotation := a },
            eventPool := { s.eventPool with free := t.eventPool.free },
            lineScheduler :=
              { s.lineScheduler with
                burst := 0,
                exchange := some
                  { kind := .poll k (s.station a).ack, station := a, phase := .sending,
                    frame := sealFrame
                      [(match k with | .replyOnly => 0x02 | .any _ => 0x42), BitVec.ofNat 8 a.val,
                       (match (s.station a).ack with
                        | .noAck => 0x00
                        | .reply tag => 0x20 + BitVec.ofNat 8 tag.val
                        | .event => 0x40), 0] } } } ∧
      (if (s.station a).pollMode = .repliesAndEvents ∧ s.eventPool.free ≠ [] then
        ∃ r, k = .any r ∧ r ∈ s.eventPool.free ∧ (∀ r' ∈ s.eventPool.free, r ≤ r') ∧
          t.eventPool.free = s.eventPool.free.filter (· ≠ r)
      else k = .replyOnly ∧ t.eventPool.free = s.eventPool.free)

/-! ## The outcome of an exchange (03 3.4, 04, 05, 07) -/

/-- A valid ACCEPT: attempts rises; the slot is WAITING, or CANCELLING at the tail of the Cancel List if the host asked for it
back; its held place is closed; the station's outstanding count rises, its no-answer count is 0, an UNKNOWN station becomes
ACTIVE and joins the change set, and a pending acknowledgement of reply with this tag is cleared (R37, R67, R72, R80,
R82). -/
def Obligations.AcceptIsTaken : Prop :=
  ∀ (s : State) (x : Exchange) (n : SlotNo), Decided s x (.answer .accept) → x.kind = .request n →
    (s.slot n).station.toNat = x.station.val → s.lineEngine.state ≠ .stopping →
    ∃ t, exec .outcomeTaken s = .next t ∧
      t = { s with
            slotTable := t.slotTable, dispatchQueue := s.dispatchQueue.filter fun p => p.slot ≠ none,
            cancelList := if (s.slot n).hostCancel then s.cancelList ++ [n] else s.cancelList,
            stationTable := t.stationTable, lineScheduler := { s.lineScheduler with exchange := none } } ∧
      OnlySlot n s t ∧
      t.slot n =
        { s.slot n with
          state := if (s.slot n).hostCancel then .cancelling else .waiting,
          attempts := (s.slot n).attempts + 1 } ∧
      OnlyStationAndChanges x.station s t ∧
      t.station x.station =
        { s.station x.station with
          state := if (s.station x.station).state = .unknown then .active else (s.station x.station).state,
          outstanding := (s.station x.station).outstanding + 1, noAnswer := 0,
          ack := if (s.station x.station).ack = .reply n then .noAck else (s.station x.station).ack } ∧
      t.stationTable.changes =
        if (s.station x.station).state = .unknown then
          s.stationTable.changes ||| BitVec.twoPow 32 x.station.val
        else s.stationTable.changes

/-- Any other outcome of a REQUEST, where the station is not lost by it (R25, R38, R39, R68 to R72, R80, R83, R84).
The slot: attempts rises but after an echo fault; with host-cancel set it is DONE CANCELLED; with a retry allowed after
REFUSE BUSY or a lost answer, and after an echo fault always, it is QUEUED again in its held place; otherwise it is DONE
REFUSED, REJECTED with the reason, or NO_ANSWER. The station: a REFUSE sets the no-answer count to 0 and makes UNKNOWN
ACTIVE, REFUSE BUSY starts the hold, a lost answer adds to the no-answer count, an echo fault leaves all. -/
def Obligations.AFailedRequestIsTaken : Prop :=
  ∀ (s : State) (x : Exchange) (n : SlotNo) (o : ExchangeOutcome), Decided s x o → x.kind = .request n →
    (s.slot n).state = .sending → (s.slot n).station.toNat = x.station.val → s.lineEngine.state ≠ .stopping →
    (o = .noAnswer ∨ o = .checkError ∨ o = .protocolError ∨ o = .echoFault ∨ ∃ reason, o = .answer (.refuse reason)) →
    (o ≠ .echoFault → (∀ reason, o ≠ .answer (.refuse reason)) →
      (s.station x.station).noAnswer + 1 < s.stationTable.noAnswerLimit) →
    ∃ t, exec .outcomeTaken s = .next t ∧
      t = { s with
            slotTable := t.slotTable, dispatchQueue := t.dispatchQueue, cancelList := t.cancelList,
            stationTable := t.stationTable, completionUnit := t.completionUnit,
            lineScheduler := { s.lineScheduler with exchange := none } } ∧
      OnlySlot n s t ∧
      (let attempts := if o = .echoFault then (s.slot n).attempts else (s.slot n).attempts + 1
       let retried := (s.slot n).hostCancel = false ∧
         (o = .echoFault ∨
           ((∀ reason, o = .answer (.refuse reason) → reason = 1) ∧ attempts ≤ (s.slot n).retryLimit.toNat))
       if retried then
         t.slot n = { s.slot n with state := .queued, attempts := attempts } ∧
         t.dispatchQueue = (s.dispatchQueue.map fun p => if p.slot = none then { p with slot := some n } else p) ∧
         t.cancelList = s.cancelList ∧ t.completionUnit = s.completionUnit
       else
         (∃ status octet, t.slot n = { (s.slot n).ended status octet s.lineEngine.clock with attempts := attempts } ∧
           (if (s.slot n).hostCancel then status = .cancelled ∧ octet = 0
            else match o with
              | .answer (.refuse reason) =>
                if reason = 1 then status = .refused ∧ octet = 0 else status = .rejected ∧ octet = reason
              | _ => status = .noAnswer ∧ octet = 0)) ∧
         t.dispatchQueue = (s.dispatchQueue.filter fun p => p.slot ≠ none).filter (fun p => p.slot ≠ some n) ∧
         t.cancelList = s.cancelList.filter (· ≠ n) ∧ t.completionUnit = s.completionUnit.joined [n]) ∧
      OnlyStationAndChanges x.station s t ∧
      (match o with
       | .echoFault => t.station x.station = s.station x.station ∧ t.stationTable.changes = s.stationTable.changes
       | .answer (.refuse reason) =>
         t.station x.station =
           { s.station x.station with
             state := if (s.station x.station).state = .unknown then .active else (s.station x.station).state,
             noAnswer := 0,
             holdRemaining := if reason = 1 then s.stationTable.holdoff else (s.station x.station).holdRemaining,
             holdDue := if reason = 1 then false else (s.station x.station).holdDue } ∧
         t.stationTable.changes =
           if (s.station x.station).state = .unknown then
             s.stationTable.changes ||| BitVec.twoPow 32 x.station.val
           else s.stationTable.changes
       | _ =>
         t.station x.station = { s.station x.station with noAnswer := (s.station x.station).noAnswer + 1 } ∧
         t.stationTable.changes = s.stationTable.changes)

/-- The outcome of a CANCEL, where the station is not lost by it (R41, R80, R82, R83, R99, R100, R101, R102). The
cancel-in-flight flag is cleared. CANCELLED completes the slot TIMEOUT or CANCELLED by its deadline-expired flag. A lost
answer adds to cancel attempts and to the no-answer count, and sends the slot to the tail of the Cancel List, or at the third
makes it ABANDONED with its tag quarantined. An echo fault sends it to the tail, nothing counted. -/
def Obligations.ACancelsOutcomeIsTaken : Prop :=
  ∀ (s : State) (x : Exchange) (n : SlotNo) (o : ExchangeOutcome), Decided s x o → x.kind = .cancel n →
    (s.slot n).state = .cancelling → n ∉ s.cancelList → n ∉ queuedSlots s.dispatchQueue →
    (s.slot n).station.toNat = x.station.val → s.lineEngine.state ≠ .stopping →
    (o = .noAnswer ∨ o = .checkError ∨ o = .protocolError ∨ o = .echoFault ∨ o = .answer .cancelled) →
    (o ≠ .echoFault → o ≠ .answer .cancelled →
      (s.station x.station).noAnswer + 1 < s.stationTable.noAnswerLimit) →
    ∃ t, exec .outcomeTaken s = .next t ∧
      t = { s with
            slotTable := t.slotTable, cancelList := t.cancelList, stationTable := t.stationTable,
            completionUnit := t.completionUnit, lineScheduler := { s.lineScheduler with exchange := none } } ∧
      OnlySlot n s t ∧ OnlyStationAndChanges x.station s t ∧
      (match o with
       | .answer _ =>
         t.slot n =
           { (s.slot n).ended (if (s.slot n).deadlineExpired then .timeout else .cancelled) 0 s.lineEngine.clock with
             cancelInFlight := false } ∧
         t.cancelList = s.cancelList ∧ t.completionUnit = s.completionUnit.joined [n] ∧
         t.station x.station =
           { s.station x.station with
             state := if (s.station x.station).state = .unknown then .active else (s.station x.station).state,
             outstanding := (s.station x.station).outstanding - 1, noAnswer := 0 } ∧
         t.stationTable.changes =
           if (s.station x.station).state = .unknown then
             s.stationTable.changes ||| BitVec.twoPow 32 x.station.val
           else s.stationTable.changes
       | .echoFault =>
         t.slot n = { s.slot n with cancelInFlight := false } ∧ t.cancelList = s.cancelList ++ [n] ∧
         t.completionUnit = s.completionUnit ∧ t.station x.station = s.station x.station ∧
         t.stationTable.changes = s.stationTable.changes
       | _ =>
         t.stationTable.changes = s.stationTable.changes ∧
         if (s.slot n).cancelAttempts + 1 < 3 then
           t.slot n =
             { s.slot n with cancelInFlight := false, cancelAttempts := (s.slot n).cancelAttempts + 1 } ∧
           t.cancelList = s.cancelList ++ [n] ∧ t.completionUnit = s.completionUnit ∧
           t.station x.station = { s.station x.station with noAnswer := (s.station x.station).noAnswer + 1 }
         else
           t.slot n =
             { (s.slot n).ended .abandoned 0 s.lineEngine.clock with
               cancelInFlight := false, cancelAttempts := (s.slot n).cancelAttempts + 1 } ∧
           t.cancelList = s.cancelList ∧ t.completionUnit = s.completionUnit.joined [n] ∧
           t.station x.station =
             { s.station x.station with
               outstanding := (s.station x.station).outstanding - 1,
               noAnswer := (s.station x.station).noAnswer + 1,
               quarantine := (s.station x.station).quarantine ||| BitVec.twoPow 32 n.val })

/-- A valid REPLY with a tag, from a station that is not DISABLED, to a POLL or to the tag's own CANCEL (R29, R80, R82, R92
to R95, R100, R130). It is matched where the slot names the station and is WAITING, which becomes DONE OK, or CANCELLING,
which becomes DONE LATE: the reply stored, the outstanding count one lower, the slot out of the Cancel List with its
cancel-in-flight flag clear. Otherwise it is stray: no slot changes, the tag leaves the quarantine set, the stray record is
written and STRAY latched. Either way the no-answer count is 0, UNKNOWN becomes ACTIVE, the pending acknowledgement is reply
with this tag, and a reserved record is free again. -/
def Obligations.AReplyIsMatchedOrStray : Prop :=
  ∀ (s : State) (x : Exchange) (tag : SlotNo) (r : Bool) (octet : Octet) (payload : List Octet),
    Decided s x (.answer (.reply tag r octet payload)) →
    ((∃ k ack, x.kind = .poll k ack) ∨
      x.kind = .cancel tag ∧ (s.slot tag).state = .cancelling ∧ (s.slot tag).station.toNat = x.station.val) →
    (s.station x.station).state ≠ .disabled → s.lineEngine.state ≠ .stopping →
    ((s.slot tag).cancelInFlight = true → x.kind = .cancel tag) →
    (tag ∈ queuedSlots s.dispatchQueue → (s.slot tag).state = .queued) →
    ∃ t, exec .outcomeTaken s = .next t ∧
      t = { s with
            slotTable := t.slotTable, cancelList := t.cancelList, stationTable := t.stationTable,
            eventPool := { s.eventPool with free := t.eventPool.free }, completionUnit := t.completionUnit,
            strayRecord := t.strayRecord, lineScheduler := { s.lineScheduler with exchange := none } } ∧
      (∀ y, y ∈ t.eventPool.free ↔ y ∈ s.eventPool.free ∨ ∃ ack, x.kind = .poll (.any y) ack) ∧
      OnlyStationAndChanges x.station s t ∧ OnlySlot tag s t ∧
      (if (s.slot tag).station.toNat = x.station.val ∧
          ((s.slot tag).state = .waiting ∨ (s.slot tag).state = .cancelling) then
        t.slot tag =
          { s.slot tag with
            state := .done, status := if (s.slot tag).state = .waiting then .ok else .late, replyStatus := octet,
            replyLength := payload.length, reply := (t.slot tag).reply, completionTime := s.lineEngine.clock,
            cancelInFlight := false } ∧
        (∀ k : Fin 32, (t.slot tag).reply[k] = payload.getD (2 * k.val + 1) 0 ++ payload.getD (2 * k.val) 0) ∧
        t.cancelList = s.cancelList.filter (· ≠ tag) ∧ t.completionUnit = s.completionUnit.joined [tag] ∧
        t.strayRecord = s.strayRecord ∧
        t.station x.station =
          { s.station x.station with
            state := if (s.station x.station).state = .unknown then .active else (s.station x.station).state,
            outstanding := (s.station x.station).outstanding - 1, noAnswer := 0, ack := .reply tag }
      else
        t.slot tag = s.slot tag ∧ t.cancelList = s.cancelList ∧
        t.completionUnit =
          { s.completionUnit with causes := { s.completionUnit.causes with stray := true } } ∧
        t.strayRecord = { station := x.station, tag := tag, time := s.lineEngine.clock } ∧
        t.station x.station =
          { s.station x.station with
            state := if (s.station x.station).state = .unknown then .active else (s.station x.station).state,
            noAnswer := 0, ack := .reply tag,
            quarantine := (s.station x.station).quarantine &&& ~~~(BitVec.twoPow 32 tag.val) }) ∧
      t.stationTable.changes =
        if (s.station x.station).state = .unknown then
          s.stationTable.changes ||| BitVec.twoPow 32 x.station.val
        else s.stationTable.changes

/-- The outcomes of a POLL that are no REPLY, where the station is not lost by them (R78, R80, R82, R83, R120, R127 to R130).
A valid EVENT decided for a queue fills the reserved record, which joins that queue's tail, an alert latching ALERT; every
other outcome returns the reserved record unwritten. EVENT and IDLE set the acknowledgement to event and none; a lost
answer adds to the no-answer count; an echo fault leaves the station. For a station found DISABLED only the record is
returned, also where the outcome is one that no run brings to a POLL (log 26). -/
def Obligations.APollsOutcomeIsTaken : Prop :=
  ∀ (s : State) (x : Exchange) (k : PollKind) (ack : Ack) (o : ExchangeOutcome), Decided s x o →
    x.kind = .poll k ack → s.lineEngine.state ≠ .stopping →
    (o = .noAnswer ∨ o = .checkError ∨ o = .protocolError ∨ o = .echoFault ∨ o = .answer .idle ∨
      (∃ r e, k = .any r ∧ o = .answer (.event e)) ∨ (s.station x.station).state = .disabled) →
    (o = .noAnswer ∨ o = .checkError ∨ o = .protocolError → (s.station x.station).state ≠ .disabled →
      (s.station x.station).noAnswer + 1 < s.stationTable.noAnswerLimit) →
    ∃ t, exec .outcomeTaken s = .next t ∧
      t = { s with
            stationTable := t.stationTable, eventPool := t.eventPool, completionUnit := t.completionUnit,
            lineScheduler := { s.lineScheduler with exchange := none } } ∧
      OnlyStationAndChanges x.station s t ∧
      (let filed := fun (r : RecordNo) (e : EventAnswer) =>
         (s.station x.station).state ≠ .disabled ∧ k = .any r ∧ o = .answer (.event e) ∧
           e.decision.action ≠ .discard
       (∀ r e, filed r e →
         (t.eventPool.records[r] =
           { station := x.station, relayed := e.relay.isSome, repeatFlag := e.repeatFlag,
             queue := if e.decision.action = .queueA then .a else .b, alert := e.decision.alert,
             chain := e.decision.chain, payloadLength := e.payload.length,
             origin := match e.relay with | some (origin, _) => origin | none => 0,
             hopCount := match e.relay with | some (_, hop) => hop.toNat | none => 0,
             arrivalTime := e.arrival, payload := t.eventPool.records[r].payload } ∧
          (∀ i : Fin 32, t.eventPool.records[r].payload[i] =
            e.payload.getD (2 * i.val + 1) 0 ++ e.payload.getD (2 * i.val) 0)) ∧
         (∀ r' : RecordNo, r' ≠ r → t.eventPool.records[r'] = s.eventPool.records[r']) ∧
         t.eventPool.free = s.eventPool.free ∧
         t.eventPool.queueA =
           (if e.decision.action = .queueA then s.eventPool.queueA ++ [r] else s.eventPool.queueA) ∧
         t.eventPool.queueB =
           (if e.decision.action = .queueB then s.eventPool.queueB ++ [r] else s.eventPool.queueB) ∧
         t.completionUnit =
           { s.completionUnit with
             causes := { s.completionUnit.causes with
               alert := s.completionUnit.causes.alert || e.decision.alert } }) ∧
       ((∀ r e, ¬ filed r e) →
         t.eventPool = { s.eventPool with free := t.eventPool.free } ∧
         (∀ y, y ∈ t.eventPool.free ↔ y ∈ s.eventPool.free ∨ k = .any y) ∧
         t.completionUnit = s.completionUnit)) ∧
      (if (s.station x.station).state = .disabled ∨ o = .echoFault then
        t.station x.station = s.station x.station ∧ t.stationTable.changes = s.stationTable.changes
      else match o with
        | .answer a =>
          t.station x.station =
            { s.station x.station with
              state := if (s.station x.station).state = .unknown then .active else (s.station x.station).state,
              noAnswer := 0, ack := if a = .idle then .noAck else .event } ∧
          t.stationTable.changes =
            if (s.station x.station).state = .unknown then
              s.stationTable.changes ||| BitVec.twoPow 32 x.station.val
            else s.stationTable.changes
        | _ =>
          t.station x.station = { s.station x.station with noAnswer := (s.station x.station).noAnswer + 1 } ∧
          t.stationTable.changes = s.stationTable.changes)

/-- A lost answer that brings the no-answer count to the limit sends the station OFFLINE, after the exchange's own effect on
its slot (R30, R42, R66, R83, R85). `t0` is the state that the same outcome gives with the limit out of reach; from it every
slot of the station that is QUEUED, WAITING or CANCELLING becomes DONE STATION_LOST and leaves its list, all joining the
completion queue in one change in increasing order of slot number; the tags of the WAITING and CANCELLING ones are
quarantined and the outstanding count falls by their number; hold and pending acknowledgement are cleared, the no-answer
count stands, and the address joins the change set. -/
def Obligations.ALostStationsSlotsAreCompleted : Prop :=
  ∀ (s t0 : State) (x : Exchange) (o : ExchangeOutcome) (limit : Nat), Decided s x o →
    (o = .noAnswer ∨ o = .checkError ∨ o = .protocolError) → s.lineEngine.state ≠ .stopping →
    (s.station x.station).state ≠ .disabled →
    s.stationTable.noAnswerLimit ≤ (s.station x.station).noAnswer + 1 →
    (s.station x.station).noAnswer + 1 < limit →
    exec .outcomeTaken { s with stationTable := { s.stationTable with noAnswerLimit := limit } } = .next t0 →
    let lost := (List.finRange 32).filter fun n =>
      (t0.slot n).station.toNat = x.station.val ∧
        ((t0.slot n).state = .queued ∨ (t0.slot n).state = .waiting ∨ (t0.slot n).state = .cancelling)
    let held := lost.filter fun n => (t0.slot n).state = .waiting ∨ (t0.slot n).state = .cancelling
    ∃ t, exec .outcomeTaken s = .next t ∧
      t = { t0 with
            slotTable := t.slotTable, stationTable := t.stationTable,
            dispatchQueue := t0.dispatchQueue.filter fun p => ∀ n ∈ lost, p.slot ≠ some n,
            cancelList := t0.cancelList.filter (· ∉ lost),
            completionUnit := if lost = [] then t0.completionUnit else t0.completionUnit.joined lost } ∧
      t.slotTable.postCounter = t0.slotTable.postCounter ∧
      (∀ n, t.slot n =
        if n ∈ lost then (t0.slot n).ended .stationLost 0 t0.lineEngine.clock else t0.slot n) ∧
      t.stationTable =
        { t0.stationTable with
          entries := t.stationTable.entries, noAnswerLimit := s.stationTable.noAnswerLimit,
          changes := s.stationTable.changes ||| BitVec.twoPow 32 x.station.val } ∧
      (∀ b, b ≠ x.station → t.station b = t0.station b) ∧
      t.station x.station =
        { t0.station x.station with
          state := .offline, outstanding := (t0.station x.station).outstanding - held.length,
          holdRemaining := 0, holdDue := false, ack := .noAck,
          quarantine := (t.station x.station).quarantine } ∧
      ∀ n : SlotNo, (t.station x.station).quarantine.getLsbD n.val =
        ((t0.station x.station).quarantine.getLsbD n.val || decide (n ∈ held))

/-- In STOPPING the taking of the outcome has the effects it has in RUNNING, and in the same change the line enters OFF with
LINE latched (R66, R142, R151). With no outcome decided there is nothing to take (log 2). -/
def Obligations.StoppingEndsWithTheOutcome : Prop :=
  ∀ s : State,
    (∀ x o t, Decided s x o → s.lineEngine.state = .stopping →
      exec .outcomeTaken { s with lineEngine := { s.lineEngine with state := .running } } = .next t →
      exec .outcomeTaken s = .next
        { t with
          lineEngine := { t.lineEngine with state := .off }, completionUnit := t.completionUnit.lineLatched }) ∧
    ((∀ x o, ¬ Decided s x o) → exec .outcomeTaken s = .next s)

/-- LINE is latched by every command that takes the line into FAULT from STARTING, RUNNING or STOPPING (or from OFF through
STARTING), or into OFF from STARTING or STOPPING, whether or not it was latched already, and by no other; it stays latched
until a write of CAUSE clears it or a reset, whose move to OFF latches nothing (R151). -/
def Obligations.LineIsLatchedAtItsEntriesAlone : Prop :=
  ∀ (c : Instr) (s t : State), exec c s = .next t → LineConsistent s →
    let resets := c = .pinReset ∨ c = .powerOn ∨ isChipReset c = true ∧ s.pins.reset = false
    let entered := t.lineEngine.state = .fault ∧ s.lineEngine.state ≠ .fault ∨
      t.lineEngine.state = .off ∧ (s.lineEngine.state = .starting ∨ s.lineEngine.state = .stopping)
    (resets → t.lineEngine.state = .off ∧ t.completionUnit.causes.line = false) ∧
    (¬ resets → entered → t.completionUnit.causes.line = true) ∧
    (¬ resets → ¬ entered → t.completionUnit.causes.line = true → s.completionUnit.causes.line = true) ∧
    (¬ resets → ¬ entered → s.completionUnit.causes.line = true →
      t.completionUnit.causes.line = true ∨ isCauseWriteOf 5 c = true)

/-! ## The check and the Classifier (01, 06) -/

/-- The check of no octets is FFFFh and that of the ASCII digits 1 to 9 is 29B1h; the check run over any octets followed by
their two check octets, high octet first, gives 0000h, and over no other two octets (R8). -/
def Obligations.TheCheckOfACheckedFrameIsZero : Prop :=
  check [] = 0xFFFF ∧ check [0x31, 0x32, 0x33, 0x34, 0x35, 0x36, 0x37, 0x38, 0x39] = 0x29B1 ∧
  ∀ (octets : List Octet) (high low : Octet),
    check (octets ++ [high, low]) = 0 ↔ high ++ low = check octets

/-- The Classifier's decision (R114 to R119). An entry is true if it is enabled and its three tests together, turned over by
invert, are true. Entry j ends a chain if it is entry 7 or entry j + 1 is not joined to it; its chain is j and every entry
before it from which each entry up to j is joined to the one before. The first chain, by its number, whose entries are all
true decides, with its last entry's action and alert, a discard carrying alert 0; with no true chain, or the enable 0, the
default action decides, with alert 0 and chain number 8. -/
def Obligations.TheFirstTrueChainDecides : Prop :=
  ∀ (c : Classifier) (v : EventView),
    let isTrue := fun i : Fin 8 =>
      let e := c.table[i]
      let stationTest := e.stationFilter.val = 0 ∨ e.stationFilter.val = v.station.val
      let pathTest := e.path = .any ∨ e.path = .directOnly ∧ v.relayed = false ∨
        e.path = .relayedOnly ∧ v.relayed = true
      let selected := ((List.range 16).filter fun j => e.byteMask.getLsbD j).map (e.offset.val + ·)
      let signatureTest := e.byteMask = 0 ∨
        (∀ i ∈ selected, i < v.payload.length) ∧ check (selected.map fun i => v.payload.getD i 0) = e.signature
      e.enabled = true ∧ (e.invert = false ↔ stationTest ∧ pathTest ∧ signatureTest)
    let isTrueChain := fun j : Fin 8 =>
      (∀ i : Fin 8, i.val = j.val + 1 → c.table[i].joinPrevious = false) ∧
      ∀ m : Fin 8, m ≤ j → (∀ i : Fin 8, m < i → i ≤ j → c.table[i].joinPrevious = true) → isTrue m
    (∀ j, c.enable = true → isTrueChain j → (∀ i, i < j → ¬ isTrueChain i) →
      c.decide v =
        { action := c.table[j].action,
          alert := c.table[j].alert && decide (c.table[j].action ≠ .discard), chain := j.val }) ∧
    (c.enable = false ∨ (∀ j, ¬ isTrueChain j) →
      c.decide v = { action := c.defaultAction, alert := false, chain := 8 })

/-! ## Invariants -/

/-- Every invariant below holds right after a pin reset, at the moment that State.reset is (log 9). -/
def Obligations.InvariantsHoldAtReset : Prop :=
  LineConsistent State.reset ∧ RegistersLegal State.reset ∧ CoalescingSound State.reset.completionUnit ∧
  PoolPartition State.reset ∧ SlotListsAgree State.reset ∧ RecordsSound State.reset ∧ StationsAgree State.reset

/-- Every step keeps the line's consistency, the legality of the registers and counters, and the coalescing state: an
exchange in flight only in RUNNING and STOPPING, at most 3 consecutive echo faults and fewer than 3 outside OFF and FAULT,
and no completion with neither COMPLETE latched nor the timer running (R57, R59, R84, R87, R146, R149, R154 to R157). -/
def Obligations.StepsKeepLineRegistersAndCoalescing : Prop :=
  ∀ s t : State, step s = .next t →
    LineConsistent s ∧ RegistersLegal s ∧ CoalescingSound s.completionUnit →
    LineConsistent t ∧ RegistersLegal t ∧ CoalescingSound t.completionUnit

/-- Every step keeps each of the 24 event records in exactly one of the free list, queue A, queue B and the reservation
(R124). -/
def Obligations.StepsKeepThePoolPartitioned : Prop :=
  ∀ s t : State, step s = .next t → PoolPartition s → PoolPartition t

/-- From reset on, every step keeps each slot in exactly the list its state calls for, and the flags and the exchange in
flight in agreement with the states (R23, R52, R98, R152). -/
def Obligations.StepsKeepSlotsAndListsInAgreement : Prop :=
  SlotListsAgree State.reset ∧ ∀ s t : State, step s = .next t → SlotListsAgree s → SlotListsAgree t

/-- Every step keeps, with the lists, what each record holds in each state: no status or reply before DONE, exactly one
cancellation flag in CANCELLING, attempts within the retry limit, at most two unanswered cancels (R25, R26, R29). -/
def Obligations.StepsKeepRecordsSound : Prop :=
  ∀ s t : State, step s = .next t → SlotListsAgree s ∧ RecordsSound s → RecordsSound t

/-- Every step keeps, with the lists, the stations in agreement with the slots: every live slot's station is served and does
not quarantine its tag, and every outstanding count is the number of the station's WAITING and CANCELLING slots (R54, R75,
R77, R105). -/
def Obligations.StepsKeepStationsAndSlotsInAgreement : Prop :=
  ∀ s t : State, step s = .next t → SlotListsAgree s ∧ StationsAgree s → StationsAgree t
end

