-- ==== Sys2Proof/Laws/Completion.lean ====
section
/-! SUPPORT. What each operation of the Completion Unit does to it, in one equation each (R152 to R157). -/

namespace Sys2Proof.Machine

namespace CompletionUnit

variable (u : CompletionUnit)

/-! ## Latching COMPLETE -/

@[simp] theorem latchComplete_queue : u.latchComplete.queue = u.queue := rfl
@[simp] theorem latchComplete_timer : u.latchComplete.timer = none := rfl
@[simp] theorem latchComplete_complete : u.latchComplete.causes.complete = true := rfl
@[simp] theorem latchComplete_threshold : u.latchComplete.threshold = u.threshold := rfl
@[simp] theorem latchComplete_holdoff : u.latchComplete.holdoff = u.holdoff := rfl

/-- A join of slots in one change, as an equation (R155, R156). -/
theorem join_eq_joined {slots : List SlotNo} (h : slots ≠ []) : u.join slots = u.joined slots := by
  cases u with
  | mk queue timer threshold holdoff causes enables ie =>
    cases causes with
    | mk c1 c2 c3 c4 c5 c6 c7 =>
      have h1 : slots.isEmpty = false := by simp [h]
      by_cases hq : queue = [] <;> cases c1 <;> by_cases hh : holdoff = 0 <;>
        simp_all [join, joined, startTimer, compareThreshold, latchComplete, List.length_append] <;>
        split <;> simp_all

/-- One slot's join (R28). -/
@[simp] theorem join_singleton (n : SlotNo) : u.join [n] = u.joined [n] :=
  u.join_eq_joined (List.cons_ne_nil n [])

@[simp] theorem join_nil : u.join [] = u := rfl

@[simp] theorem join_queue (slots : List SlotNo) : (u.join slots).queue = u.queue ++ slots := by
  by_cases h : slots = []
  · subst h; simp
  · rw [u.join_eq_joined h]

/-- A slot's departure (R46, R152, R156). -/
theorem leave_eq (n : SlotNo) :
    u.leave n =
      { u with
        queue := u.queue.filter (· ≠ n)
        timer := if (u.queue.filter (· ≠ n)) = [] then none else u.timer } := by
  unfold leave
  by_cases h : (u.queue.filter (· ≠ n)) = [] <;> simp

@[simp] theorem leave_queue (n : SlotNo) : (u.leave n).queue = u.queue.filter (· ≠ n) := rfl

/-- The host's clear of a COMPLETE that is latched, and of one that is not (R157). -/
theorem clearComplete_eq :
    u.clearComplete =
      if u.causes.complete = true then
        if u.queue = [] then { u with causes := { u.causes with complete := false } }
        else if u.threshold ≤ u.queue.length ∨ u.holdoff = 0 then
          { u with causes := { u.causes with complete := true }, timer := none }
        else { u with causes := { u.causes with complete := false }, timer := some u.holdoff }
      else u := by
  cases u with
  | mk queue timer threshold holdoff causes enables ie =>
    cases causes with
    | mk c1 c2 c3 c4 c5 c6 c7 =>
      cases c1 <;> by_cases hq : queue = [] <;> by_cases hh : holdoff = 0 <;>
        simp_all [clearComplete, startTimer, compareThreshold, latchComplete]

@[simp] theorem clearComplete_queue : u.clearComplete.queue = u.queue := by
  rw [clearComplete_eq]; split
  · split
    · rfl
    · split <;> rfl
  · rfl

/-- The timer's expiry (R156). -/
theorem expire_eq : u.expire = if u.timer = some 0 then u.latchComplete else u := rfl

/-- An accepted write of COALESCE (R154). -/
theorem setCoalesce_eq (th h : Nat) :
    u.setCoalesce th h =
      if th ≤ u.queue.length then
        { u with threshold := th, holdoff := h, causes := { u.causes with complete := true }, timer := none }
      else { u with threshold := th, holdoff := h } := by
  unfold setCoalesce compareThreshold latchComplete
  split <;> simp_all

end CompletionUnit

end Sys2Proof.Machine
end

