-- ==== Sys2Proof/Laws/Lists.lean ====
section
/-! SUPPORT. Searches of the lists of all numbers, the operations of the Dispatch Queue and of the Cancel List, and the
operations of the Event Pool (R51 to R56, R98, R124, R125). -/

namespace Sys2Proof.Machine

/-! ## Searches in increasing order -/

/-- The first number that passes a test is the least one that passes it. -/
theorem find?_finRange_eq_some {k : Nat} {p : Fin k → Bool} {i : Fin k} :
    (List.finRange k).find? p = some i ↔ p i = true ∧ ∀ j, j < i → p j = false := by
  rw [List.find?_eq_some_iff_getElem]
  constructor
  · rintro ⟨hp, m, hm, rfl, hlt⟩
    refine ⟨hp, fun j hj => ?_⟩
    have hj' : j.val < m := by simpa [Fin.lt_def] using hj
    simpa using hlt j.val hj'
  · rintro ⟨hp, hlt⟩
    refine ⟨hp, i.val, by simp, by simp, fun j hj => ?_⟩
    have hjk : j < k := by omega
    simpa using hlt ⟨j, hjk⟩ (by simpa [Fin.lt_def] using hj)

/-- No number passes a test that the search does not find. -/
theorem find?_finRange_eq_none {k : Nat} {p : Fin k → Bool} :
    (List.finRange k).find? p = none ↔ ∀ j, p j = false := by
  simp [List.find?_eq_none]

/-- A filter of all numbers holds those that pass. -/
@[simp] theorem mem_filter_finRange {k : Nat} {p : Fin k → Bool} {i : Fin k} :
    i ∈ (List.finRange k).filter p ↔ p i = true := by
  simp

/-! ## The Dispatch Queue -/

@[simp] theorem queuedSlots_nil : queuedSlots [] = [] := rfl

@[simp] theorem queuedSlots_cons_some (l : Level) (n : SlotNo) (q : List Place) :
    queuedSlots (⟨l, some n⟩ :: q) = n :: queuedSlots q := rfl

@[simp] theorem queuedSlots_cons_none (l : Level) (q : List Place) :
    queuedSlots (⟨l, none⟩ :: q) = queuedSlots q := rfl

@[simp] theorem queuedSlots_append (p q : List Place) :
    queuedSlots (p ++ q) = queuedSlots p ++ queuedSlots q := by
  simp [queuedSlots]

theorem mem_queuedSlots {n : SlotNo} {q : List Place} :
    n ∈ queuedSlots q ↔ ∃ p ∈ q, p.slot = some n := by
  simp [queuedSlots]

/-- A posted slot is the youngest of all (R52). -/
@[simp] theorem queuedSlots_joinTail (l : Level) (n : SlotNo) (q : List Place) :
    queuedSlots (joinTail l n q) = queuedSlots q ++ [n] := by
  simp [joinTail]

@[simp] theorem heldPlaces_joinTail (l : Level) (n : SlotNo) (q : List Place) :
    heldPlaces (joinTail l n q) = heldPlaces q := by
  simp [heldPlaces, joinTail]

/-- A slot that leaves is gone, the others keep their order (R53). -/
@[simp] theorem queuedSlots_leaveQueue (n : SlotNo) (q : List Place) :
    queuedSlots (leaveQueue n q) = (queuedSlots q).filter (· ≠ n) := by
  induction q with
  | nil => rfl
  | cons p q ih =>
    obtain ⟨l, o⟩ := p
    cases o with
    | none => simpa [leaveQueue] using ih
    | some m =>
      by_cases h : m = n
      · subst h; simpa [leaveQueue] using ih
      · simpa [leaveQueue, List.filter_cons, h] using ih

@[simp] theorem heldPlaces_leaveQueue (n : SlotNo) (q : List Place) :
    heldPlaces (leaveQueue n q) = heldPlaces q := by
  unfold heldPlaces leaveQueue
  rw [List.filter_filter]
  congr 1
  apply List.filter_congr
  intro p _
  cases p.slot <;> simp

/-- Closing the held place moves no slot (R52). -/
@[simp] theorem queuedSlots_closeHeldPlace (q : List Place) :
    queuedSlots (closeHeldPlace q) = queuedSlots q := by
  induction q with
  | nil => rfl
  | cons p q ih =>
    obtain ⟨l, o⟩ := p
    cases o <;> simp_all [closeHeldPlace]

@[simp] theorem heldPlaces_closeHeldPlace (q : List Place) : heldPlaces (closeHeldPlace q) = 0 := by
  unfold heldPlaces closeHeldPlace
  rw [List.filter_filter, List.length_eq_zero_iff, List.filter_eq_nil_iff]
  intro p _
  cases p.slot <;> simp

/-- A slot that leaves for SENDING leaves its place held (R52). -/
theorem holdPlace_split {before after : List Place} {l : Level} {n : SlotNo}
    (h : (queuedSlots (before ++ ⟨l, some n⟩ :: after)).Nodup) :
    holdPlace n (before ++ ⟨l, some n⟩ :: after) = before ++ ⟨l, none⟩ :: after := by
  simp only [queuedSlots_append, queuedSlots_cons_some] at h
  have hb : ∀ p ∈ before, p.slot ≠ some n := fun p hp e =>
    (List.nodup_append.1 h).2.2 n (mem_queuedSlots.2 ⟨p, hp, e⟩) n (by simp) rfl
  have ha : ∀ p ∈ after, p.slot ≠ some n := fun p hp e =>
    (List.nodup_cons.1 (List.nodup_append.1 h).2.1).1 (mem_queuedSlots.2 ⟨p, hp, e⟩)
  have hid : ∀ q : List Place, (∀ p ∈ q, p.slot ≠ some n) →
      q.map (fun p => if p.slot = some n then { p with slot := none } else p) = q := fun q hq => by
    conv_rhs => rw [← List.map_id q]
    exact List.map_congr_left fun p hp => by simp [hq p hp]
  simp [holdPlace, hid before hb, hid after ha]

/-- The queued slots after one of them has been held. -/
theorem queuedSlots_holdPlace (n : SlotNo) (q : List Place) :
    queuedSlots (holdPlace n q) = (queuedSlots q).filter (· ≠ n) := by
  induction q with
  | nil => rfl
  | cons p q ih =>
    obtain ⟨l, o⟩ := p
    cases o with
    | none => simpa [holdPlace] using ih
    | some m =>
      by_cases h : m = n
      · subst h; simpa [holdPlace] using ih
      · simp only [holdPlace, List.map_cons] at ih ⊢
        simp [h, ih]

/-! ## The Event Pool -/

/-- What the free list holds after a record has joined it (R125). -/
@[simp] theorem EventPool.mem_giveFree {r x : RecordNo} {p : EventPool} :
    x ∈ (p.giveFree r).free ↔ x = r ∨ x ∈ p.free := by
  simp [EventPool.giveFree, allRecords]

/-- What the free list holds after a record has left it. -/
@[simp] theorem EventPool.mem_takeFree {r x : RecordNo} {p : EventPool} :
    x ∈ (p.takeFree r).free ↔ x ∈ p.free ∧ x ≠ r := by
  simp [EventPool.takeFree]

theorem EventPool.giveFree_nodup (r : RecordNo) (p : EventPool) : (p.giveFree r).free.Nodup := by
  unfold EventPool.giveFree allRecords
  exact List.Nodup.filter _ (List.nodup_finRange 24)

/-- The free list after a record that was not on it has joined it: the same list with it, in ascending order. -/
theorem EventPool.giveFree_perm {r : RecordNo} {p : EventPool} (hn : p.free.Nodup) (hr : r ∉ p.free) :
    (p.giveFree r).free.Perm (r :: p.free) := by
  rw [List.perm_ext_iff_of_nodup (p.giveFree_nodup r) (List.nodup_cons.2 ⟨hr, hn⟩)]
  intro x
  simp

/-- The record that is reserved is the least that is free (R125). -/
theorem EventPool.lowestFree_eq_some {r : RecordNo} {p : EventPool} :
    p.lowestFree = some r ↔ r ∈ p.free ∧ ∀ x ∈ p.free, r ≤ x := by
  unfold EventPool.lowestFree allRecords
  rw [find?_finRange_eq_some]
  simp only [decide_eq_true_eq, decide_eq_false_iff_not]
  refine and_congr_right fun _ => ⟨fun h x hx => ?_, fun h j hj hm => ?_⟩
  · exact Fin.not_lt.1 fun hlt => h x hlt hx
  · exact absurd (h j hm) (Fin.not_le.2 hj)

theorem EventPool.lowestFree_eq_none {p : EventPool} : p.lowestFree = none ↔ p.free = [] := by
  unfold EventPool.lowestFree allRecords
  rw [find?_finRange_eq_none]
  simp [List.eq_nil_iff_forall_not_mem]

end Sys2Proof.Machine
end

