-- ==== Sys2Proof/Laws/State.lean ====
section
/-! SUPPORT. One lemma for each field of State under each update of one block, so that no proof unfolds a record
update; and what the reads of one slot and of one station entry see of each update. -/

namespace Sys2Proof.Machine

/-! ## onPins -/

section

variable (s : State) (f : Pins → Pins)

@[simp] theorem State.onPins_pending : (s.onPins f).pending = s.pending := rfl
@[simp] theorem State.onPins_pins : (s.onPins f).pins = f s.pins := rfl
@[simp] theorem State.onPins_hostPort : (s.onPins f).hostPort = s.hostPort := rfl
@[simp] theorem State.onPins_slotTable : (s.onPins f).slotTable = s.slotTable := rfl
@[simp] theorem State.onPins_dispatchQueue : (s.onPins f).dispatchQueue = s.dispatchQueue := rfl
@[simp] theorem State.onPins_cancelList : (s.onPins f).cancelList = s.cancelList := rfl
@[simp] theorem State.onPins_stationTable : (s.onPins f).stationTable = s.stationTable := rfl
@[simp] theorem State.onPins_classifier : (s.onPins f).classifier = s.classifier := rfl
@[simp] theorem State.onPins_eventPool : (s.onPins f).eventPool = s.eventPool := rfl
@[simp] theorem State.onPins_completionUnit : (s.onPins f).completionUnit = s.completionUnit := rfl
@[simp] theorem State.onPins_lineScheduler : (s.onPins f).lineScheduler = s.lineScheduler := rfl
@[simp] theorem State.onPins_lineEngine : (s.onPins f).lineEngine = s.lineEngine := rfl
@[simp] theorem State.onPins_strayRecord : (s.onPins f).strayRecord = s.strayRecord := rfl
@[simp] theorem State.onPins_slot (n : SlotNo) : (s.onPins f).slot n = s.slot n := rfl
@[simp] theorem State.onPins_station (a : Address) : (s.onPins f).station a = s.station a := rfl
@[simp] theorem State.onPins_phase : (s.onPins f).phase = s.phase := rfl

end

/-! ## onHost -/

section

variable (s : State) (f : HostPort → HostPort)

@[simp] theorem State.onHost_pending : (s.onHost f).pending = s.pending := rfl
@[simp] theorem State.onHost_pins : (s.onHost f).pins = s.pins := rfl
@[simp] theorem State.onHost_hostPort : (s.onHost f).hostPort = f s.hostPort := rfl
@[simp] theorem State.onHost_slotTable : (s.onHost f).slotTable = s.slotTable := rfl
@[simp] theorem State.onHost_dispatchQueue : (s.onHost f).dispatchQueue = s.dispatchQueue := rfl
@[simp] theorem State.onHost_cancelList : (s.onHost f).cancelList = s.cancelList := rfl
@[simp] theorem State.onHost_stationTable : (s.onHost f).stationTable = s.stationTable := rfl
@[simp] theorem State.onHost_classifier : (s.onHost f).classifier = s.classifier := rfl
@[simp] theorem State.onHost_eventPool : (s.onHost f).eventPool = s.eventPool := rfl
@[simp] theorem State.onHost_completionUnit : (s.onHost f).completionUnit = s.completionUnit := rfl
@[simp] theorem State.onHost_lineScheduler : (s.onHost f).lineScheduler = s.lineScheduler := rfl
@[simp] theorem State.onHost_lineEngine : (s.onHost f).lineEngine = s.lineEngine := rfl
@[simp] theorem State.onHost_strayRecord : (s.onHost f).strayRecord = s.strayRecord := rfl
@[simp] theorem State.onHost_slot (n : SlotNo) : (s.onHost f).slot n = s.slot n := rfl
@[simp] theorem State.onHost_station (a : Address) : (s.onHost f).station a = s.station a := rfl
@[simp] theorem State.onHost_phase : (s.onHost f).phase = s.phase := rfl

end

/-! ## onSlots -/

section

variable (s : State) (f : SlotTable → SlotTable)

@[simp] theorem State.onSlots_pending : (s.onSlots f).pending = s.pending := rfl
@[simp] theorem State.onSlots_pins : (s.onSlots f).pins = s.pins := rfl
@[simp] theorem State.onSlots_hostPort : (s.onSlots f).hostPort = s.hostPort := rfl
@[simp] theorem State.onSlots_slotTable : (s.onSlots f).slotTable = f s.slotTable := rfl
@[simp] theorem State.onSlots_dispatchQueue : (s.onSlots f).dispatchQueue = s.dispatchQueue := rfl
@[simp] theorem State.onSlots_cancelList : (s.onSlots f).cancelList = s.cancelList := rfl
@[simp] theorem State.onSlots_stationTable : (s.onSlots f).stationTable = s.stationTable := rfl
@[simp] theorem State.onSlots_classifier : (s.onSlots f).classifier = s.classifier := rfl
@[simp] theorem State.onSlots_eventPool : (s.onSlots f).eventPool = s.eventPool := rfl
@[simp] theorem State.onSlots_completionUnit : (s.onSlots f).completionUnit = s.completionUnit := rfl
@[simp] theorem State.onSlots_lineScheduler : (s.onSlots f).lineScheduler = s.lineScheduler := rfl
@[simp] theorem State.onSlots_lineEngine : (s.onSlots f).lineEngine = s.lineEngine := rfl
@[simp] theorem State.onSlots_strayRecord : (s.onSlots f).strayRecord = s.strayRecord := rfl
@[simp] theorem State.onSlots_station (a : Address) : (s.onSlots f).station a = s.station a := rfl
@[simp] theorem State.onSlots_phase : (s.onSlots f).phase = s.phase := rfl

end

/-! ## onDispatch -/

section

variable (s : State) (f : List Place → List Place)

@[simp] theorem State.onDispatch_pending : (s.onDispatch f).pending = s.pending := rfl
@[simp] theorem State.onDispatch_pins : (s.onDispatch f).pins = s.pins := rfl
@[simp] theorem State.onDispatch_hostPort : (s.onDispatch f).hostPort = s.hostPort := rfl
@[simp] theorem State.onDispatch_slotTable : (s.onDispatch f).slotTable = s.slotTable := rfl
@[simp] theorem State.onDispatch_dispatchQueue : (s.onDispatch f).dispatchQueue = f s.dispatchQueue := rfl
@[simp] theorem State.onDispatch_cancelList : (s.onDispatch f).cancelList = s.cancelList := rfl
@[simp] theorem State.onDispatch_stationTable : (s.onDispatch f).stationTable = s.stationTable := rfl
@[simp] theorem State.onDispatch_classifier : (s.onDispatch f).classifier = s.classifier := rfl
@[simp] theorem State.onDispatch_eventPool : (s.onDispatch f).eventPool = s.eventPool := rfl
@[simp] theorem State.onDispatch_completionUnit : (s.onDispatch f).completionUnit = s.completionUnit := rfl
@[simp] theorem State.onDispatch_lineScheduler : (s.onDispatch f).lineScheduler = s.lineScheduler := rfl
@[simp] theorem State.onDispatch_lineEngine : (s.onDispatch f).lineEngine = s.lineEngine := rfl
@[simp] theorem State.onDispatch_strayRecord : (s.onDispatch f).strayRecord = s.strayRecord := rfl
@[simp] theorem State.onDispatch_slot (n : SlotNo) : (s.onDispatch f).slot n = s.slot n := rfl
@[simp] theorem State.onDispatch_station (a : Address) : (s.onDispatch f).station a = s.station a := rfl
@[simp] theorem State.onDispatch_phase : (s.onDispatch f).phase = s.phase := rfl

end

/-! ## onCancelList -/

section

variable (s : State) (f : List SlotNo → List SlotNo)

@[simp] theorem State.onCancelList_pending : (s.onCancelList f).pending = s.pending := rfl
@[simp] theorem State.onCancelList_pins : (s.onCancelList f).pins = s.pins := rfl
@[simp] theorem State.onCancelList_hostPort : (s.onCancelList f).hostPort = s.hostPort := rfl
@[simp] theorem State.onCancelList_slotTable : (s.onCancelList f).slotTable = s.slotTable := rfl
@[simp] theorem State.onCancelList_dispatchQueue : (s.onCancelList f).dispatchQueue = s.dispatchQueue := rfl
@[simp] theorem State.onCancelList_cancelList : (s.onCancelList f).cancelList = f s.cancelList := rfl
@[simp] theorem State.onCancelList_stationTable : (s.onCancelList f).stationTable = s.stationTable := rfl
@[simp] theorem State.onCancelList_classifier : (s.onCancelList f).classifier = s.classifier := rfl
@[simp] theorem State.onCancelList_eventPool : (s.onCancelList f).eventPool = s.eventPool := rfl
@[simp] theorem State.onCancelList_completionUnit : (s.onCancelList f).completionUnit = s.completionUnit := rfl
@[simp] theorem State.onCancelList_lineScheduler : (s.onCancelList f).lineScheduler = s.lineScheduler := rfl
@[simp] theorem State.onCancelList_lineEngine : (s.onCancelList f).lineEngine = s.lineEngine := rfl
@[simp] theorem State.onCancelList_strayRecord : (s.onCancelList f).strayRecord = s.strayRecord := rfl
@[simp] theorem State.onCancelList_slot (n : SlotNo) : (s.onCancelList f).slot n = s.slot n := rfl
@[simp] theorem State.onCancelList_station (a : Address) : (s.onCancelList f).station a = s.station a := rfl
@[simp] theorem State.onCancelList_phase : (s.onCancelList f).phase = s.phase := rfl

end

/-! ## onStations -/

section

variable (s : State) (f : StationTable → StationTable)

@[simp] theorem State.onStations_pending : (s.onStations f).pending = s.pending := rfl
@[simp] theorem State.onStations_pins : (s.onStations f).pins = s.pins := rfl
@[simp] theorem State.onStations_hostPort : (s.onStations f).hostPort = s.hostPort := rfl
@[simp] theorem State.onStations_slotTable : (s.onStations f).slotTable = s.slotTable := rfl
@[simp] theorem State.onStations_dispatchQueue : (s.onStations f).dispatchQueue = s.dispatchQueue := rfl
@[simp] theorem State.onStations_cancelList : (s.onStations f).cancelList = s.cancelList := rfl
@[simp] theorem State.onStations_stationTable : (s.onStations f).stationTable = f s.stationTable := rfl
@[simp] theorem State.onStations_classifier : (s.onStations f).classifier = s.classifier := rfl
@[simp] theorem State.onStations_eventPool : (s.onStations f).eventPool = s.eventPool := rfl
@[simp] theorem State.onStations_completionUnit : (s.onStations f).completionUnit = s.completionUnit := rfl
@[simp] theorem State.onStations_lineScheduler : (s.onStations f).lineScheduler = s.lineScheduler := rfl
@[simp] theorem State.onStations_lineEngine : (s.onStations f).lineEngine = s.lineEngine := rfl
@[simp] theorem State.onStations_strayRecord : (s.onStations f).strayRecord = s.strayRecord := rfl
@[simp] theorem State.onStations_slot (n : SlotNo) : (s.onStations f).slot n = s.slot n := rfl
@[simp] theorem State.onStations_phase : (s.onStations f).phase = s.phase := rfl

end

/-! ## onClassifier -/

section

variable (s : State) (f : Classifier → Classifier)

@[simp] theorem State.onClassifier_pending : (s.onClassifier f).pending = s.pending := rfl
@[simp] theorem State.onClassifier_pins : (s.onClassifier f).pins = s.pins := rfl
@[simp] theorem State.onClassifier_hostPort : (s.onClassifier f).hostPort = s.hostPort := rfl
@[simp] theorem State.onClassifier_slotTable : (s.onClassifier f).slotTable = s.slotTable := rfl
@[simp] theorem State.onClassifier_dispatchQueue : (s.onClassifier f).dispatchQueue = s.dispatchQueue := rfl
@[simp] theorem State.onClassifier_cancelList : (s.onClassifier f).cancelList = s.cancelList := rfl
@[simp] theorem State.onClassifier_stationTable : (s.onClassifier f).stationTable = s.stationTable := rfl
@[simp] theorem State.onClassifier_classifier : (s.onClassifier f).classifier = f s.classifier := rfl
@[simp] theorem State.onClassifier_eventPool : (s.onClassifier f).eventPool = s.eventPool := rfl
@[simp] theorem State.onClassifier_completionUnit : (s.onClassifier f).completionUnit = s.completionUnit := rfl
@[simp] theorem State.onClassifier_lineScheduler : (s.onClassifier f).lineScheduler = s.lineScheduler := rfl
@[simp] theorem State.onClassifier_lineEngine : (s.onClassifier f).lineEngine = s.lineEngine := rfl
@[simp] theorem State.onClassifier_strayRecord : (s.onClassifier f).strayRecord = s.strayRecord := rfl
@[simp] theorem State.onClassifier_slot (n : SlotNo) : (s.onClassifier f).slot n = s.slot n := rfl
@[simp] theorem State.onClassifier_station (a : Address) : (s.onClassifier f).station a = s.station a := rfl
@[simp] theorem State.onClassifier_phase : (s.onClassifier f).phase = s.phase := rfl

end

/-! ## onPool -/

section

variable (s : State) (f : EventPool → EventPool)

@[simp] theorem State.onPool_pending : (s.onPool f).pending = s.pending := rfl
@[simp] theorem State.onPool_pins : (s.onPool f).pins = s.pins := rfl
@[simp] theorem State.onPool_hostPort : (s.onPool f).hostPort = s.hostPort := rfl
@[simp] theorem State.onPool_slotTable : (s.onPool f).slotTable = s.slotTable := rfl
@[simp] theorem State.onPool_dispatchQueue : (s.onPool f).dispatchQueue = s.dispatchQueue := rfl
@[simp] theorem State.onPool_cancelList : (s.onPool f).cancelList = s.cancelList := rfl
@[simp] theorem State.onPool_stationTable : (s.onPool f).stationTable = s.stationTable := rfl
@[simp] theorem State.onPool_classifier : (s.onPool f).classifier = s.classifier := rfl
@[simp] theorem State.onPool_eventPool : (s.onPool f).eventPool = f s.eventPool := rfl
@[simp] theorem State.onPool_completionUnit : (s.onPool f).completionUnit = s.completionUnit := rfl
@[simp] theorem State.onPool_lineScheduler : (s.onPool f).lineScheduler = s.lineScheduler := rfl
@[simp] theorem State.onPool_lineEngine : (s.onPool f).lineEngine = s.lineEngine := rfl
@[simp] theorem State.onPool_strayRecord : (s.onPool f).strayRecord = s.strayRecord := rfl
@[simp] theorem State.onPool_slot (n : SlotNo) : (s.onPool f).slot n = s.slot n := rfl
@[simp] theorem State.onPool_station (a : Address) : (s.onPool f).station a = s.station a := rfl
@[simp] theorem State.onPool_phase : (s.onPool f).phase = s.phase := rfl

end

/-! ## onCompletion -/

section

variable (s : State) (f : CompletionUnit → CompletionUnit)

@[simp] theorem State.onCompletion_pending : (s.onCompletion f).pending = s.pending := rfl
@[simp] theorem State.onCompletion_pins : (s.onCompletion f).pins = s.pins := rfl
@[simp] theorem State.onCompletion_hostPort : (s.onCompletion f).hostPort = s.hostPort := rfl
@[simp] theorem State.onCompletion_slotTable : (s.onCompletion f).slotTable = s.slotTable := rfl
@[simp] theorem State.onCompletion_dispatchQueue : (s.onCompletion f).dispatchQueue = s.dispatchQueue := rfl
@[simp] theorem State.onCompletion_cancelList : (s.onCompletion f).cancelList = s.cancelList := rfl
@[simp] theorem State.onCompletion_stationTable : (s.onCompletion f).stationTable = s.stationTable := rfl
@[simp] theorem State.onCompletion_classifier : (s.onCompletion f).classifier = s.classifier := rfl
@[simp] theorem State.onCompletion_eventPool : (s.onCompletion f).eventPool = s.eventPool := rfl
@[simp] theorem State.onCompletion_completionUnit : (s.onCompletion f).completionUnit = f s.completionUnit := rfl
@[simp] theorem State.onCompletion_lineScheduler : (s.onCompletion f).lineScheduler = s.lineScheduler := rfl
@[simp] theorem State.onCompletion_lineEngine : (s.onCompletion f).lineEngine = s.lineEngine := rfl
@[simp] theorem State.onCompletion_strayRecord : (s.onCompletion f).strayRecord = s.strayRecord := rfl
@[simp] theorem State.onCompletion_slot (n : SlotNo) : (s.onCompletion f).slot n = s.slot n := rfl
@[simp] theorem State.onCompletion_station (a : Address) : (s.onCompletion f).station a = s.station a := rfl
@[simp] theorem State.onCompletion_phase : (s.onCompletion f).phase = s.phase := rfl

end

/-! ## onScheduler -/

section

variable (s : State) (f : LineScheduler → LineScheduler)

@[simp] theorem State.onScheduler_pending : (s.onScheduler f).pending = s.pending := rfl
@[simp] theorem State.onScheduler_pins : (s.onScheduler f).pins = s.pins := rfl
@[simp] theorem State.onScheduler_hostPort : (s.onScheduler f).hostPort = s.hostPort := rfl
@[simp] theorem State.onScheduler_slotTable : (s.onScheduler f).slotTable = s.slotTable := rfl
@[simp] theorem State.onScheduler_dispatchQueue : (s.onScheduler f).dispatchQueue = s.dispatchQueue := rfl
@[simp] theorem State.onScheduler_cancelList : (s.onScheduler f).cancelList = s.cancelList := rfl
@[simp] theorem State.onScheduler_stationTable : (s.onScheduler f).stationTable = s.stationTable := rfl
@[simp] theorem State.onScheduler_classifier : (s.onScheduler f).classifier = s.classifier := rfl
@[simp] theorem State.onScheduler_eventPool : (s.onScheduler f).eventPool = s.eventPool := rfl
@[simp] theorem State.onScheduler_completionUnit : (s.onScheduler f).completionUnit = s.completionUnit := rfl
@[simp] theorem State.onScheduler_lineScheduler : (s.onScheduler f).lineScheduler = f s.lineScheduler := rfl
@[simp] theorem State.onScheduler_lineEngine : (s.onScheduler f).lineEngine = s.lineEngine := rfl
@[simp] theorem State.onScheduler_strayRecord : (s.onScheduler f).strayRecord = s.strayRecord := rfl
@[simp] theorem State.onScheduler_slot (n : SlotNo) : (s.onScheduler f).slot n = s.slot n := rfl
@[simp] theorem State.onScheduler_station (a : Address) : (s.onScheduler f).station a = s.station a := rfl

end

/-! ## onEngine -/

section

variable (s : State) (f : LineEngine → LineEngine)

@[simp] theorem State.onEngine_pending : (s.onEngine f).pending = s.pending := rfl
@[simp] theorem State.onEngine_pins : (s.onEngine f).pins = s.pins := rfl
@[simp] theorem State.onEngine_hostPort : (s.onEngine f).hostPort = s.hostPort := rfl
@[simp] theorem State.onEngine_slotTable : (s.onEngine f).slotTable = s.slotTable := rfl
@[simp] theorem State.onEngine_dispatchQueue : (s.onEngine f).dispatchQueue = s.dispatchQueue := rfl
@[simp] theorem State.onEngine_cancelList : (s.onEngine f).cancelList = s.cancelList := rfl
@[simp] theorem State.onEngine_stationTable : (s.onEngine f).stationTable = s.stationTable := rfl
@[simp] theorem State.onEngine_classifier : (s.onEngine f).classifier = s.classifier := rfl
@[simp] theorem State.onEngine_eventPool : (s.onEngine f).eventPool = s.eventPool := rfl
@[simp] theorem State.onEngine_completionUnit : (s.onEngine f).completionUnit = s.completionUnit := rfl
@[simp] theorem State.onEngine_lineScheduler : (s.onEngine f).lineScheduler = s.lineScheduler := rfl
@[simp] theorem State.onEngine_lineEngine : (s.onEngine f).lineEngine = f s.lineEngine := rfl
@[simp] theorem State.onEngine_strayRecord : (s.onEngine f).strayRecord = s.strayRecord := rfl
@[simp] theorem State.onEngine_slot (n : SlotNo) : (s.onEngine f).slot n = s.slot n := rfl
@[simp] theorem State.onEngine_station (a : Address) : (s.onEngine f).station a = s.station a := rfl
@[simp] theorem State.onEngine_phase : (s.onEngine f).phase = s.phase := rfl

end

/-! ## modifySlot and modifyStation -/

section

variable (s : State) (n : SlotNo) (a : Address) (f : Slot → Slot) (g : Station → Station)

@[simp] theorem State.modifySlot_pending : (s.modifySlot n f).pending = s.pending := rfl
@[simp] theorem State.modifySlot_pins : (s.modifySlot n f).pins = s.pins := rfl
@[simp] theorem State.modifySlot_hostPort : (s.modifySlot n f).hostPort = s.hostPort := rfl
@[simp] theorem State.modifySlot_dispatchQueue : (s.modifySlot n f).dispatchQueue = s.dispatchQueue := rfl
@[simp] theorem State.modifySlot_cancelList : (s.modifySlot n f).cancelList = s.cancelList := rfl
@[simp] theorem State.modifySlot_stationTable : (s.modifySlot n f).stationTable = s.stationTable := rfl
@[simp] theorem State.modifySlot_classifier : (s.modifySlot n f).classifier = s.classifier := rfl
@[simp] theorem State.modifySlot_eventPool : (s.modifySlot n f).eventPool = s.eventPool := rfl
@[simp] theorem State.modifySlot_completionUnit : (s.modifySlot n f).completionUnit = s.completionUnit := rfl
@[simp] theorem State.modifySlot_lineScheduler : (s.modifySlot n f).lineScheduler = s.lineScheduler := rfl
@[simp] theorem State.modifySlot_lineEngine : (s.modifySlot n f).lineEngine = s.lineEngine := rfl
@[simp] theorem State.modifySlot_strayRecord : (s.modifySlot n f).strayRecord = s.strayRecord := rfl
@[simp] theorem State.modifyStation_pending : (s.modifyStation a g).pending = s.pending := rfl
@[simp] theorem State.modifyStation_pins : (s.modifyStation a g).pins = s.pins := rfl
@[simp] theorem State.modifyStation_hostPort : (s.modifyStation a g).hostPort = s.hostPort := rfl
@[simp] theorem State.modifyStation_slotTable : (s.modifyStation a g).slotTable = s.slotTable := rfl
@[simp] theorem State.modifyStation_dispatchQueue : (s.modifyStation a g).dispatchQueue = s.dispatchQueue := rfl
@[simp] theorem State.modifyStation_cancelList : (s.modifyStation a g).cancelList = s.cancelList := rfl
@[simp] theorem State.modifyStation_classifier : (s.modifyStation a g).classifier = s.classifier := rfl
@[simp] theorem State.modifyStation_eventPool : (s.modifyStation a g).eventPool = s.eventPool := rfl
@[simp] theorem State.modifyStation_completionUnit : (s.modifyStation a g).completionUnit = s.completionUnit := rfl
@[simp] theorem State.modifyStation_lineScheduler : (s.modifyStation a g).lineScheduler = s.lineScheduler := rfl
@[simp] theorem State.modifyStation_lineEngine : (s.modifyStation a g).lineEngine = s.lineEngine := rfl
@[simp] theorem State.modifyStation_strayRecord : (s.modifyStation a g).strayRecord = s.strayRecord := rfl
@[simp] theorem State.modifySlot_postCounter :
    (s.modifySlot n f).slotTable.postCounter = s.slotTable.postCounter := rfl
@[simp] theorem State.modifyStation_rotation :
    (s.modifyStation a g).stationTable.rotation = s.stationTable.rotation := rfl
@[simp] theorem State.modifyStation_changes :
    (s.modifyStation a g).stationTable.changes = s.stationTable.changes := rfl
@[simp] theorem State.modifyStation_noAnswerLimit :
    (s.modifyStation a g).stationTable.noAnswerLimit = s.stationTable.noAnswerLimit := rfl
@[simp] theorem State.modifyStation_holdoff :
    (s.modifyStation a g).stationTable.holdoff = s.stationTable.holdoff := rfl
@[simp] theorem State.modifySlot_station (b : Address) : (s.modifySlot n f).station b = s.station b := rfl
@[simp] theorem State.modifyStation_slot (m : SlotNo) : (s.modifyStation a g).slot m = s.slot m := rfl

/-- The changed slot, and every other slot. -/
theorem State.modifySlot_slot (m : SlotNo) :
    (s.modifySlot n f).slot m = if m = n then f (s.slot n) else s.slot m := by
  unfold State.slot State.modifySlot State.onSlots
  by_cases h : m = n
  · subst h; simp
  · have h' : n.val ≠ m.val := fun e => h (Fin.ext e.symm)
    simp [h, h']

@[simp] theorem State.modifySlot_slot_self : (s.modifySlot n f).slot n = f (s.slot n) := by
  simp [State.modifySlot_slot]

@[simp] theorem State.modifySlot_slot_ne {m : SlotNo} (h : m ≠ n) : (s.modifySlot n f).slot m = s.slot m := by
  simp [State.modifySlot_slot, h]

/-- The changed entry, and every other entry. -/
theorem State.modifyStation_station (b : Address) :
    (s.modifyStation a g).station b = if b = a then g (s.station a) else s.station b := by
  unfold State.station State.modifyStation State.onStations
  by_cases h : b = a
  · subst h; simp
  · have h' : a.val ≠ b.val := fun e => h (Fin.ext e.symm)
    simp [h, h']

@[simp] theorem State.modifyStation_station_self : (s.modifyStation a g).station a = g (s.station a) := by
  simp [State.modifyStation_station]

@[simp] theorem State.modifyStation_station_ne {b : Address} (h : b ≠ a) :
    (s.modifyStation a g).station b = s.station b := by
  simp [State.modifyStation_station, h]

end

/-! ## Two states with the same parts are equal -/

/-- Slot Tables with the same slots and the same post counter are equal. -/
theorem SlotTable.eq_of_slots {s t : State} (hc : t.slotTable.postCounter = s.slotTable.postCounter)
    (h : ∀ n, t.slot n = s.slot n) : t.slotTable = s.slotTable := by
  have hs : t.slotTable.slots = s.slotTable.slots := by
    ext i hi
    exact h ⟨i, hi⟩
  cases ht : t.slotTable
  cases hs' : s.slotTable
  simp_all

/-- Station Tables with the same entries are equal when the rest of them is. -/
theorem StationTable.entries_eq {s t : State} (h : ∀ a, t.station a = s.station a) :
    t.stationTable.entries = s.stationTable.entries := by
  ext i hi
  exact h ⟨i, hi⟩

/-- A change of an entry that changes nothing. -/
theorem State.modifyStation_id {s : State} {a : Address} {g : Station → Station}
    (h : g (s.station a) = s.station a) : s.modifyStation a g = s := by
  have he : (s.modifyStation a g).stationTable.entries = s.stationTable.entries :=
    StationTable.entries_eq fun b => by
      by_cases hb : b = a
      · subst hb; simpa using h
      · simp [hb]
  cases s
  simp_all [State.modifyStation, State.onStations]

end Sys2Proof.Machine
end

