-- ==== Sys2Proof/Laws/Completing.lean ====
section
/-! SUPPORT. Everything that the completion of one slot, of several slots one after another, and of a lost station's slots
does to the state (R28 to R30, R42, R105). -/

namespace Sys2Proof.Machine

variable (s : State) (n : SlotNo) (status : Status) (octet : Octet) (payload : List Octet)

/-! ## One slot (R28) -/

/-- A completion touches the slots, their two lists and the stations alone, less the completion queue. -/
theorem State.finishSlot_frame :
    s.finishSlot n status octet payload =
      { s with
        slotTable := (s.finishSlot n status octet payload).slotTable
        dispatchQueue := leaveQueue n s.dispatchQueue
        cancelList := s.cancelList.filter (· ≠ n)
        stationTable := (s.finishSlot n status octet payload).stationTable } := rfl

@[simp] theorem State.finishSlot_lineEngine :
    (s.finishSlot n status octet payload).lineEngine = s.lineEngine := rfl

@[simp] theorem State.finishSlot_postCounter :
    (s.finishSlot n status octet payload).slotTable.postCounter = s.slotTable.postCounter := rfl

theorem State.finishSlot_slot (m : SlotNo) :
    (s.finishSlot n status octet payload).slot m =
      if m = n then (s.slot n).finished status octet payload s.lineEngine.clock else s.slot m := by
  unfold State.finishSlot
  by_cases h : m = n
  · subst h; simp
  · simp [h]

theorem State.finishSlot_station (b : Address) :
    (s.finishSlot n status octet payload).station b =
      if b = (s.slot n).address then (s.station b).release n (s.slot n).state.held status else s.station b := by
  unfold State.finishSlot
  by_cases h : b = (s.slot n).address
  · subst h; simp
  · simp [h]

/-- Of the Station Table only the entries change. -/
theorem State.finishSlot_stationTable :
    (s.finishSlot n status octet payload).stationTable =
      { s.stationTable with entries := (s.finishSlot n status octet payload).stationTable.entries } := rfl

/-- A completion with its joining of the completion queue: the completion without it, and the join. -/
theorem State.completeSlot_eq :
    s.completeSlot n status octet payload =
      { s.finishSlot n status octet payload with completionUnit := s.completionUnit.joined [n] } := by
  unfold State.completeSlot State.onCompletion
  rw [CompletionUnit.join_singleton]
  rfl

@[simp] theorem State.completeSlot_slot_self :
    (s.completeSlot n status octet payload).slot n =
      (s.slot n).finished status octet payload s.lineEngine.clock :=
  (s.finishSlot_slot n status octet payload n).trans (if_pos rfl)

@[simp] theorem State.completeSlot_slot_ne {m : SlotNo} (h : m ≠ n) :
    (s.completeSlot n status octet payload).slot m = s.slot m :=
  (s.finishSlot_slot n status octet payload m).trans (if_neg h)

theorem State.completeSlot_station (b : Address) :
    (s.completeSlot n status octet payload).station b =
      if b = (s.slot n).address then (s.station b).release n (s.slot n).state.held status else s.station b :=
  s.finishSlot_station n status octet payload b

/-- A record that ends with no reply stores one of no octets (R29). -/
theorem Slot.finished_nil (r : Slot) (clock : Word) :
    r.finished status octet [] clock = r.ended status octet clock := by
  have h : packPayload [] = Vector.replicate 32 0 := by decide
  simp [Slot.finished, h]

/-! ## Several slots one after another (R30, R42) -/

/-- The slots of a list, each completed in its turn, less the completion queue. -/
def State.finishAll (l : List SlotNo) (s : State) : State :=
  l.foldl (fun s n => s.finishSlot n status octet payload) s

/-- What completions one after another leave: nothing changes but slots, their lists and the stations' entries. -/
theorem State.finishAll_frame (l : List SlotNo) (s : State) :
    s.finishAll status octet payload l =
      { s with
        slotTable := (s.finishAll status octet payload l).slotTable
        dispatchQueue := s.dispatchQueue.filter fun p => ∀ n ∈ l, p.slot ≠ some n
        cancelList := s.cancelList.filter (· ∉ l)
        stationTable :=
          { s.stationTable with entries := (s.finishAll status octet payload l).stationTable.entries } } := by
  induction l generalizing s with
  | nil => simp [State.finishAll]
  | cons n l ih =>
    have h := ih (s.finishSlot n status octet payload)
    have e : s.finishAll status octet payload (n :: l) =
        (s.finishSlot n status octet payload).finishAll status octet payload l := rfl
    have hq : ((leaveQueue n s.dispatchQueue).filter fun p => ∀ k ∈ l, p.slot ≠ some k) =
        s.dispatchQueue.filter fun p => ∀ k ∈ n :: l, p.slot ≠ some k := by
      rw [leaveQueue, List.filter_filter]
      exact List.filter_congr fun p _ => by simp [Bool.and_comm]
    have hc : ((s.cancelList.filter (· ≠ n)).filter (· ∉ l)) = s.cancelList.filter (· ∉ n :: l) := by
      rw [List.filter_filter]
      exact List.filter_congr fun m _ => by simp [Bool.and_comm]
    rw [e, ← hq, ← hc]
    exact h

@[simp] theorem State.finishAll_postCounter (l : List SlotNo) (s : State) :
    (s.finishAll status octet payload l).slotTable.postCounter = s.slotTable.postCounter := by
  induction l generalizing s with
  | nil => rfl
  | cons n l ih => exact ih _

/-- Each slot of the list is completed, and no other slot changes. -/
theorem State.finishAll_slot {l : List SlotNo} (hl : l.Nodup) (s : State) (m : SlotNo) :
    (s.finishAll status octet payload l).slot m =
      if m ∈ l then (s.slot m).finished status octet payload s.lineEngine.clock else s.slot m := by
  induction l generalizing s with
  | nil => simp [State.finishAll]
  | cons n l ih =>
    have e : s.finishAll status octet payload (n :: l) =
        (s.finishSlot n status octet payload).finishAll status octet payload l := rfl
    rw [e, ih (List.nodup_cons.1 hl).2, s.finishSlot_slot]
    by_cases hm : m = n
    · subst hm
      simp [(List.nodup_cons.1 hl).1]
    · simp [hm]

/-- The claims of the list's slots on a station's entry (R28, R105). -/
theorem State.finishAll_station {l : List SlotNo} (hl : l.Nodup) (s : State) (b : Address) :
    (s.finishAll status octet payload l).station b =
      { s.station b with
        outstanding :=
          (s.station b).outstanding -
            (l.filter fun n => (s.slot n).address = b ∧ (s.slot n).state.held = true).length
        quarantine := ((s.finishAll status octet payload l).station b).quarantine } := by
  induction l generalizing s with
  | nil => simp [State.finishAll]
  | cons n l ih =>
    have hn := (List.nodup_cons.1 hl).1
    have e : s.finishAll status octet payload (n :: l) =
        (s.finishSlot n status octet payload).finishAll status octet payload l := rfl
    have hf : (l.filter fun m => ((s.finishSlot n status octet payload).slot m).address = b ∧
        ((s.finishSlot n status octet payload).slot m).state.held = true) =
        l.filter fun m => (s.slot m).address = b ∧ (s.slot m).state.held = true := by
      refine List.filter_congr fun m hm => ?_
      rw [s.finishSlot_slot, if_neg fun h : m = n => hn (h ▸ hm)]
    rw [e, ih (List.nodup_cons.1 hl).2, hf, s.finishSlot_station]
    by_cases hb : (s.slot n).address = b
    · subst hb
      cases hh : (s.slot n).state.held <;> simp [Station.release, hh, Nat.sub_sub, Nat.add_comm]
    · simp [hb, Ne.symm hb]

/-- The tags that completions one after another quarantine (R105). -/
theorem State.finishAll_quarantine {l : List SlotNo} (hl : l.Nodup) (s : State) (b : Address) (m : SlotNo) :
    ((s.finishAll status octet payload l).station b).quarantine.getLsbD m.val =
      ((s.station b).quarantine.getLsbD m.val ||
        decide (m ∈ l ∧ (s.slot m).address = b ∧
          (status = .abandoned ∨ status = .stationLost ∧ (s.slot m).state.held = true))) := by
  induction l generalizing s with
  | nil => simp [State.finishAll]
  | cons n l ih =>
    have hn := (List.nodup_cons.1 hl).1
    have e : s.finishAll status octet payload (n :: l) =
        (s.finishSlot n status octet payload).finishAll status octet payload l := rfl
    have bit : (memberBit n)[m.val] = decide (m = n) := by
      simp [memberBit, Fin.ext_iff]
    rw [e, ih (List.nodup_cons.1 hl).2, s.finishSlot_station, s.finishSlot_slot]
    by_cases hm : m = n
    · subst hm
      by_cases hb : b = (s.slot m).address
      · subst hb
        by_cases hq : status = .abandoned ∨ status = .stationLost ∧ (s.slot m).state.held = true
        · simp [Station.release, hq, hn, memberBit]
        · simp [Station.release, hq, hn]
      · simp [hb, Ne.symm hb, hn]
    · by_cases hb : b = (s.slot n).address
      · subst hb
        by_cases hq : status = .abandoned ∨ status = .stationLost ∧ (s.slot n).state.held = true
        · simp [Station.release, hq, hm, bit]
        · simp [Station.release, hq, hm]
      · simp [hb, hm]

/-! ## A lost station's slots (R30, R42) -/

theorem State.lostSlots_nodup (a : Address) : (s.lostSlots a).Nodup := by
  unfold State.lostSlots allSlots
  exact List.Nodup.filter _ (List.nodup_finRange 32)

theorem State.mem_lostSlots {a : Address} {m : SlotNo} :
    m ∈ s.lostSlots a ↔ (s.slot m).names a = true ∧ ((s.slot m).state = .queued ∨ (s.slot m).state.held = true) := by
  simp [State.lostSlots, allSlots]

/-- A loss completes the lost slots one after another, and they join the completion queue in one change. -/
theorem State.loseSlots_eq (a : Address) :
    s.loseSlots a =
      { s.finishAll .stationLost 0 [] (s.lostSlots a) with
        completionUnit := s.completionUnit.join (s.lostSlots a) } := by
  have h := State.finishAll_frame .stationLost 0 [] (s.lostSlots a) s
  have hc : (s.finishAll .stationLost 0 [] (s.lostSlots a)).completionUnit = s.completionUnit := by rw [h]
  show State.onCompletion (s.finishAll .stationLost 0 [] (s.lostSlots a)) _ = _
  unfold State.onCompletion
  rw [hc]

end Sys2Proof.Machine
end

