-- ==== Sys2Proof/Laws/Counting.lean ====
section
/-! SUPPORT. What the millisecond step and the expiries do to every slot and every station at once (R87, R96, R148). -/

namespace Sys2Proof.Machine

variable (s : State)

/-! ## Every entry at once -/

@[simp] theorem StationTable.mapEntries_entries (f : Station → Station) (t : StationTable) (a : Address) :
    (t.mapEntries f).entries[a] = f t.entries[a] := by
  simp [StationTable.mapEntries]

@[simp] theorem State.onStations_mapEntries_station (f : Station → Station) (a : Address) :
    (s.onStations (StationTable.mapEntries f)).station a = f (s.station a) :=
  StationTable.mapEntries_entries f s.stationTable a

/-! ## Expiries -/

theorem State.expireHolds_station (a : Address) : s.expireHolds.station a = (s.station a).expireHold :=
  s.onStations_mapEntries_station _ a

theorem State.expiredSlots_nodup : s.expiredSlots.Nodup := by
  unfold State.expiredSlots allSlots
  exact List.Nodup.filter _ (List.nodup_finRange 32)

@[simp] theorem State.mem_expiredSlots {n : SlotNo} : n ∈ s.expiredSlots ↔ (s.slot n).deadlineDue = true := by
  simp [State.expiredSlots, allSlots]

/-- The slots of a list, each changed in its turn. -/
theorem foldl_modifySlot_slot {l : List SlotNo} (hl : l.Nodup) (f : Slot → Slot) (s : State) (m : SlotNo) :
    (l.foldl (fun s n => s.modifySlot n f) s).slot m = if m ∈ l then f (s.slot m) else s.slot m := by
  induction l generalizing s with
  | nil => simp
  | cons n l ih =>
    rw [List.foldl_cons, ih (List.nodup_cons.1 hl).2]
    by_cases hm : m = n
    · subst hm; simp [(List.nodup_cons.1 hl).1]
    · simp [hm]

/-- Changes of slots one after another touch nothing but the slots. -/
theorem foldl_modifySlot_frame (l : List SlotNo) (f : Slot → Slot) (s : State) :
    l.foldl (fun s n => s.modifySlot n f) s =
      { s with
        slotTable :=
          { s.slotTable with slots := (l.foldl (fun s n => s.modifySlot n f) s).slotTable.slots } } := by
  induction l generalizing s with
  | nil => rfl
  | cons n l ih => rw [List.foldl_cons]; exact ih (s.modifySlot n f)

/-- The deadlines' expiry: the due slots alone change, and join the Cancel List. -/
theorem State.expireDeadlines_frame :
    s.expireDeadlines =
      { s with
        slotTable := { s.slotTable with slots := s.expireDeadlines.slotTable.slots }
        cancelList := s.cancelList ++ s.expiredSlots } := by
  unfold State.expireDeadlines State.onCancelList
  dsimp only
  rw [foldl_modifySlot_frame]

theorem State.expireDeadlines_slot (n : SlotNo) :
    s.expireDeadlines.slot n = if (s.slot n).deadlineDue then (s.slot n).expired else s.slot n := by
  have h := foldl_modifySlot_slot s.expiredSlots_nodup Slot.expired s n
  simp only [State.mem_expiredSlots] at h
  exact h

/-! ## The step -/

theorem State.countDown_slot (n : SlotNo) : s.countDown.slot n = (s.slot n).countDown := by
  simp [State.countDown, State.slot]

theorem State.countDown_stationTable : s.countDown.stationTable = s.stationTable.mapEntries Station.countDown := by
  simp only [State.countDown, State.onCompletion_stationTable, State.onStations_stationTable,
    State.onSlots_stationTable, State.onEngine_stationTable]

theorem State.countDown_station (a : Address) : s.countDown.station a = (s.station a).countDown := by
  unfold State.station
  rw [s.countDown_stationTable, StationTable.mapEntries_entries]

/-- The step changes counts alone, and the clock. -/
theorem State.countDown_frame :
    s.countDown =
      { s with
        slotTable := s.countDown.slotTable
        stationTable := { s.stationTable with entries := s.countDown.stationTable.entries }
        completionUnit := { s.completionUnit with timer := s.completionUnit.timer.map (· - 1) }
        lineEngine := { s.lineEngine with clock := s.lineEngine.clock + 1 } } := by
  rw [s.countDown_stationTable]
  unfold State.countDown State.onCompletion State.onStations State.onSlots State.onEngine
  rfl

end Sys2Proof.Machine
end

