-- ==== Sys2Proof/Laws/Operands.lean ====
section
/-! SUPPORT. What the operands of a command are, from the two octets of COMMAND ARG (11.3). -/

namespace Sys2Proof.Machine

variable {s : State}

/-- A slot operand 0–31 names its slot. -/
theorem slotOperand_eq {n : SlotNo} (h : s.argLow = n.val) : slotOperand s.hostPort.commandArg = some n := by
  have h' : fieldOf s.hostPort.commandArg 0 8 = n.val := h
  simp [slotOperand, h']

/-- A slot operand above 31 names none (R47). -/
theorem slotOperand_none (h : 31 < s.argLow) : slotOperand s.hostPort.commandArg = none := by
  have h' : 31 < fieldOf s.hostPort.commandArg 0 8 := h
  exact dif_neg (by omega)

/-- A station operand 1–31 names its station. -/
theorem stationOperand_eq {a : Address} (h0 : a ≠ 0) (h : s.argLow = a.val) :
    stationOperand s.hostPort.commandArg = some a := by
  have h' : fieldOf s.hostPort.commandArg 0 8 = a.val := h
  have : 0 < a.val := Nat.pos_of_ne_zero fun e => h0 (Fin.ext e)
  simp [stationOperand, h', this]

/-- A station operand outside 1–31 names none (R90). -/
theorem stationOperand_none (h : s.argLow = 0 ∨ 31 < s.argLow) :
    stationOperand s.hostPort.commandArg = none := by
  have h' : fieldOf s.hostPort.commandArg 0 8 = 0 ∨ 31 < fieldOf s.hostPort.commandArg 0 8 := h
  exact dif_neg (by omega)

/-- A tag operand 0–31 names its tag. -/
theorem tagOperand_eq {n : SlotNo} (h : s.argHigh = n.val) : tagOperand s.hostPort.commandArg = some n := by
  have h' : fieldOf s.hostPort.commandArg 8 8 = n.val := h
  simp [tagOperand, h']

/-- A tag operand above 31 names none (R90). -/
theorem tagOperand_none (h : 31 < s.argHigh) : tagOperand s.hostPort.commandArg = none := by
  have h' : 31 < fieldOf s.hostPort.commandArg 8 8 := h
  exact dif_neg (by omega)

/-- Queue operand 0 is queue A. -/
theorem queueOperand_zero (h : s.argLow = 0) : queueOperand s.hostPort.commandArg = some .a := by
  have h' : fieldOf s.hostPort.commandArg 0 8 = 0 := h
  simp [queueOperand, h', EventQueue.ofCode]

/-- Queue operand 1 is queue B. -/
theorem queueOperand_one (h : s.argLow = 1) : queueOperand s.hostPort.commandArg = some .b := by
  have h' : fieldOf s.hostPort.commandArg 0 8 = 1 := h
  simp [queueOperand, h', EventQueue.ofCode]

/-- A queue operand above 1 names none (R131). -/
theorem queueOperand_none (h : 1 < s.argLow) : queueOperand s.hostPort.commandArg = none := by
  have h' : 1 < fieldOf s.hostPort.commandArg 0 8 := h
  unfold queueOperand EventQueue.ofCode
  split <;> simp_all

/-! ## The mechanism (R165, R166) -/

/-- A command write while RESET is asserted has no effect. -/
theorem takeCommand_reset (h : s.pins.reset = true) (code : Word) (body : State → Verdict) :
    s.takeCommand code body = s := by
  simp [State.takeCommand, h]

/-- A command write during the sweep gives BUSY. -/
theorem takeCommand_sweep (h : s.pins.reset = false) (hs : s.hostPort.sweep = true) (code : Word)
    (body : State → Verdict) : s.takeCommand code body = { s with hostPort := s.denied code .busy } := by
  simp [State.takeCommand, h, hs, State.onHost]

/-- A command that comes to DONE. -/
theorem takeCommand_done (h : Ready s) {code v : Word} {body : State → Verdict} {t : State}
    (hb : body s = .done v t) :
    s.takeCommand code body =
      { t with hostPort := { t.hostPort with command := code, result := .done, commandArg := v } } := by
  simp [State.takeCommand, h.1, h.2, hb, State.onHost]

/-- A command that comes to another result. -/
theorem takeCommand_fails (h : Ready s) {code : Word} {r : Result} {body : State → Verdict}
    (hb : body s = .fails r) : s.takeCommand code body = { s with hostPort := s.denied code r } := by
  simp [State.takeCommand, h.1, h.2, hb, State.onHost]

end Sys2Proof.Machine
end

