-- ==== Sys2Proof/Laws/Outcome.lean ====
section
/-! SUPPORT. What the taking of an exchange's outcome leaves as it stands, whatever the exchange and the outcome (R65, R66),
and the moves of the line as equations (R142, R143, R151). -/

namespace Sys2Proof.Machine

/-! ## What an outcome does not touch -/

/-- The queue of commands, the pins, the Host Port, the Classifier, the Line Scheduler and the Line Engine stand. -/
structure ControlStands (s t : State) : Prop where
  pending       : t.pending = s.pending
  pins          : t.pins = s.pins
  hostPort      : t.hostPort = s.hostPort
  classifier    : t.classifier = s.classifier
  lineScheduler : t.lineScheduler = s.lineScheduler
  lineEngine    : t.lineEngine = s.lineEngine

namespace ControlStands

theorem refl (s : State) : ControlStands s s := ⟨rfl, rfl, rfl, rfl, rfl, rfl⟩

theorem trans {s t u : State} (h : ControlStands s t) (k : ControlStands t u) : ControlStands s u :=
  ⟨k.1.trans h.1, k.2.trans h.2, k.3.trans h.3, k.4.trans h.4, k.5.trans h.5, k.6.trans h.6⟩

variable (s : State) (n : SlotNo) (a : Address)

theorem modifySlot (f : Slot → Slot) : ControlStands s (s.modifySlot n f) := ⟨rfl, rfl, rfl, rfl, rfl, rfl⟩
theorem modifyStation (f : Station → Station) : ControlStands s (s.modifyStation a f) :=
  ⟨rfl, rfl, rfl, rfl, rfl, rfl⟩
theorem onDispatch (f : List Place → List Place) : ControlStands s (s.onDispatch f) := ⟨rfl, rfl, rfl, rfl, rfl, rfl⟩
theorem onCancelList (f : List SlotNo → List SlotNo) : ControlStands s (s.onCancelList f) :=
  ⟨rfl, rfl, rfl, rfl, rfl, rfl⟩
theorem onPool (f : EventPool → EventPool) : ControlStands s (s.onPool f) := ⟨rfl, rfl, rfl, rfl, rfl, rfl⟩
theorem onStations (f : StationTable → StationTable) : ControlStands s (s.onStations f) :=
  ⟨rfl, rfl, rfl, rfl, rfl, rfl⟩
theorem onCompletion (f : CompletionUnit → CompletionUnit) : ControlStands s (s.onCompletion f) :=
  ⟨rfl, rfl, rfl, rfl, rfl, rfl⟩

theorem completeSlot (status : Status) (octet : Octet) (payload : List Octet) :
    ControlStands s (s.completeSlot n status octet payload) := ⟨rfl, rfl, rfl, rfl, rfl, rfl⟩

theorem loseSlots : ControlStands s (s.loseSlots a) := by
  rw [s.loseSlots_eq a, State.finishAll_frame]
  exact ⟨rfl, rfl, rfl, rfl, rfl, rfl⟩

theorem acceptSlot : ControlStands s (s.acceptSlot n) := by
  unfold State.acceptSlot
  dsimp only
  split <;> exact ⟨rfl, rfl, rfl, rfl, rfl, rfl⟩

theorem retrySlot (status : Status) : ControlStands s (s.retrySlot n status) := by
  unfold State.retrySlot
  split <;> exact ⟨rfl, rfl, rfl, rfl, rfl, rfl⟩

theorem failRequest (o : ExchangeOutcome) : ControlStands s (s.failRequest n o) := by
  unfold State.failRequest
  split
  · split
    · exact retrySlot s n _
    · exact ⟨rfl, rfl, rfl, rfl, rfl, rfl⟩
  · exact ⟨rfl, rfl, rfl, rfl, rfl, rfl⟩
  all_goals exact retrySlot s n _

theorem requestEffect (o : ExchangeOutcome) : ControlStands s (s.requestEffect n o) := by
  have key : ∀ s1 : State, ControlStands s s1 →
      ControlStands s (if o = .answer .accept then s1.acceptSlot n
        else if (s1.slot n).hostCancel then s1.endRequest n .cancelled 0 else s1.failRequest n o) := by
    intro s1 h
    split
    · exact h.trans (acceptSlot s1 n)
    · split
      · exact h.trans ⟨rfl, rfl, rfl, rfl, rfl, rfl⟩
      · exact h.trans (failRequest s1 n o)
  unfold State.requestEffect
  by_cases ho : o = .echoFault
  · simpa [ho] using key s (refl s)
  · simpa [ho] using key _ (modifySlot s n _)

theorem takeReply (tag : SlotNo) (octet : Octet) (payload : List Octet) :
    ControlStands s (s.takeReply a tag octet payload) := by
  unfold State.takeReply
  dsimp only
  split
  · exact completeSlot s tag _ _ _
  · split
    · exact completeSlot s tag _ _ _
    · exact ⟨rfl, rfl, rfl, rfl, rfl, rfl⟩

theorem cancelUnanswered : ControlStands s (s.cancelUnanswered n) := by
  unfold State.cancelUnanswered
  dsimp only
  split <;> exact ⟨rfl, rfl, rfl, rfl, rfl, rfl⟩

theorem cancelEffect (o : ExchangeOutcome) : ControlStands s (s.cancelEffect n o) := by
  unfold State.cancelEffect
  dsimp only
  split
  · exact ⟨rfl, rfl, rfl, rfl, rfl, rfl⟩
  · exact ⟨rfl, rfl, rfl, rfl, rfl, rfl⟩
  · exact ⟨rfl, rfl, rfl, rfl, rfl, rfl⟩
  all_goals exact (modifySlot s n _).trans (cancelUnanswered _ n)

theorem returnReserved (k : PollKind) : ControlStands s (s.returnReserved k) := by
  cases k
  · exact refl s
  · exact onPool s _

theorem fileEvent (r : RecordNo) (e : EventAnswer) (q : EventQueue) : ControlStands s (s.fileEvent r a e q) := by
  unfold State.fileEvent
  dsimp only
  split
  · exact (onPool s _).trans (onCompletion _ _)
  · exact onPool s _

theorem takeEvent (k : PollKind) (e : EventAnswer) : ControlStands s (s.takeEvent k a e) := by
  unfold State.takeEvent
  split
  · exact fileEvent s a _ e _
  · exact fileEvent s a _ e _
  · exact returnReserved s _

theorem pollEffect (k : PollKind) (o : ExchangeOutcome) : ControlStands s (s.pollEffect k a o) := by
  unfold State.pollEffect
  split
  · exact (returnReserved s k).trans (takeReply _ a _ _ _)
  · exact takeEvent s a k _
  all_goals exact returnReserved s k

theorem goOffline : ControlStands s (s.goOffline a) := by
  unfold State.goOffline
  exact (((modifyStation s a _).trans (loseSlots _ a)).trans (modifyStation _ a _)).trans (onStations _ _)

theorem bookAnswer (x : Exchange) (ans : Answer) : ControlStands s (s.bookAnswer x ans) := by
  unfold State.bookAnswer
  dsimp only
  split
  · exact (modifyStation s _ _).trans (onStations _ _)
  · exact modifyStation s _ _

theorem bookSilence : ControlStands s (s.bookSilence a) := by
  unfold State.bookSilence
  dsimp only
  split
  · exact (modifyStation s a _).trans (goOffline _ a)
  · exact modifyStation s a _

theorem book (x : Exchange) (o : ExchangeOutcome) : ControlStands s (s.book x o) := by
  unfold State.book
  split
  · exact bookAnswer s x _
  all_goals first | exact bookSilence s _ | exact refl s

theorem applyOutcome (x : Exchange) (o : ExchangeOutcome) : ControlStands s (s.applyOutcome x o) := by
  unfold State.applyOutcome
  split
  · exact (requestEffect s _ o).trans (book _ x o)
  · exact (cancelEffect s _ o).trans (book _ x o)
  · split
    · exact returnReserved s _
    · exact (pollEffect s _ _ o).trans (book _ x o)

end ControlStands

/-! ## The taking of an outcome (R65, R66) -/

variable (s : State)

/-- Every outcome, taken, leaves no exchange in flight and the rest of the control side as it stands. -/
theorem State.settle_control (x : Exchange) (o : ExchangeOutcome) :
    ControlStands { s with lineScheduler := { s.lineScheduler with exchange := none } } (s.settle x o) :=
  ControlStands.applyOutcome _ x o

@[simp] theorem State.settle_lineEngine (x : Exchange) (o : ExchangeOutcome) :
    (s.settle x o).lineEngine = s.lineEngine := (s.settle_control x o).lineEngine

@[simp] theorem State.settle_exchange (x : Exchange) (o : ExchangeOutcome) :
    (s.settle x o).lineScheduler = { s.lineScheduler with exchange := none } := (s.settle_control x o).lineScheduler

/-- A decided outcome is taken; in STOPPING the line ends with it (R142). -/
theorem State.takeOutcome_decided {x : Exchange} {o : ExchangeOutcome} (h : Decided s x o) :
    s.takeOutcome =
      if s.lineEngine.state = .stopping then (s.settle x o).moveLineLatching .off else s.settle x o := by
  simp [State.takeOutcome, h.1, h.2]

/-- With nothing decided there is nothing to take. -/
theorem State.takeOutcome_of_not_decided (h : ∀ x o, ¬ Decided s x o) : s.takeOutcome = s := by
  unfold State.takeOutcome
  split
  · rfl
  · next x hx =>
    split
    · next o ho => exact absurd ⟨hx, ho⟩ (h x o)
    all_goals rfl

/-! ## The move to FAULT (R143, R151) -/

/-- The move to FAULT with no exchange in flight. -/
theorem State.enterFault_of_none (h : s.lineScheduler.exchange = none) :
    s.enterFault =
      { s with
        lineEngine := { s.lineEngine with state := .fault }, completionUnit := s.completionUnit.lineLatched } := by
  simp [State.enterFault, h, State.moveLineLatching, State.moveLine, State.onEngine, State.onCompletion,
    CompletionUnit.latchLine]

/-- The move to FAULT ends the exchange in flight and takes its outcome. -/
theorem State.enterFault_of_some {x : Exchange} (h : s.lineScheduler.exchange = some x) :
    s.enterFault =
      State.settle
        { s with
          lineEngine := { s.lineEngine with state := .fault }, completionUnit := s.completionUnit.lineLatched }
        x x.phase.abortOutcome := by
  simp [State.enterFault, h, State.moveLineLatching, State.moveLine, State.onEngine, State.onCompletion,
    CompletionUnit.latchLine]

/-- In FAULT afterwards, with no exchange in flight. -/
theorem State.enterFault_line :
    s.enterFault.lineEngine = { s.lineEngine with state := .fault } ∧ s.enterFault.lineScheduler.exchange = none := by
  cases h : s.lineScheduler.exchange with
  | none => rw [s.enterFault_of_none h]; exact ⟨rfl, h⟩
  | some x => rw [s.enterFault_of_some h]; simp

end Sys2Proof.Machine
end

