-- ==== Sys2Proof/Laws/Registers.lean ====
section
/-! SUPPORT. The fields of a register word, bit by bit, and what a register reads with RESET deasserted (11.2). -/

namespace Sys2Proof.Machine

/-- A field placed from bit `lo` holds the bits of its value there, and 0 elsewhere. -/
theorem putField_getLsbD (lo width n i : Nat) :
    (putField lo width n).getLsbD i =
      (decide (i < 16) && decide (lo ≤ i) && decide (i - lo < width) && n.testBit (i - lo)) := by
  unfold putField
  simp only [BitVec.getLsbD_shiftLeft, BitVec.getLsbD_setWidth, BitVec.getLsbD_ofNat]
  by_cases h : i < 16 <;> by_cases h' : i < lo
  · simp [h, h']
  · simp [h, h', show lo ≤ i by omega, show i - lo < 16 by omega]
  · simp [h]
  · simp [h]

/-- A flag placed at bit `k` is that bit, and every other bit is 0. -/
theorem putBit_getLsbD (k : Nat) (b : Bool) (i : Nat) :
    (putBit k b).getLsbD i = (decide (i < 16) && decide (i = k) && b) := by
  unfold putBit
  rw [putField_getLsbD]
  by_cases h : i = k
  · subst h; cases b <;> simp
  · have : ¬ (k ≤ i ∧ i - k < 1) := by omega
    simp only [h, decide_false, Bool.and_false, Bool.false_and]
    by_cases h1 : k ≤ i <;> by_cases h2 : i - k < 1 <;> simp_all

theorem readRegister_of_reset {s : State} (h : s.pins.reset = true) (select : BitVec 5) :
    s.readRegister select = 0 := by simp [State.readRegister, h]

/-- With RESET deasserted a register shows its word. -/
theorem readRegister_named {s : State} (h : s.pins.reset = false) {select : BitVec 5} {r : Register}
    (hr : registerAt select = some r) : s.readRegister select = s.registerWord r := by
  simp [State.readRegister, h, hr]

/-- The empty offsets read 0. -/
theorem readRegister_empty {s : State} {select : BitVec 5} (hr : registerAt select = none) :
    s.readRegister select = 0 := by
  simp [State.readRegister, hr]

end Sys2Proof.Machine
end

