-- ==== Sys2Proof/Laws/TableWords.lean ====
section
/-! SUPPORT. Where an address of table space lies, and back (10.3, 11.4). -/

namespace Sys2Proof.Machine

variable (addr : BitVec 12)

theorem tableWord_slot {n : SlotNo} {k : Fin 80} (h : addr.toNat = 80 * n.val + k.val) :
    tableWord addr = .slotWord n k := by
  have hn := n.isLt
  have hk := k.isLt
  have h1 : addr.toNat < 0xA00 := by omega
  unfold tableWord
  simp only [h1, dite_true]
  refine congrArg₂ TableWord.slotWord (Fin.ext ?_) (Fin.ext ?_) <;> dsimp only <;> omega

theorem tableWord_station {a : Address} {k : Fin 8} (h : addr.toNat = 0xA00 + 8 * a.val + k.val) :
    tableWord addr = .stationWord a k := by
  have ha := a.isLt
  have hk := k.isLt
  have h1 : ¬ addr.toNat < 0xA00 := by omega
  have h2 : addr.toNat < 0xB00 := by omega
  unfold tableWord
  simp only [h1, h2, dite_true, dite_false]
  refine congrArg₂ TableWord.stationWord (Fin.ext ?_) (Fin.ext ?_) <;> dsimp only <;> omega

theorem tableWord_match {i : EntryNo} {k : Fin 8} (h : addr.toNat = 0xB00 + 8 * i.val + k.val) :
    tableWord addr = .matchWord i k := by
  have hi := i.isLt
  have hk := k.isLt
  have h1 : ¬ addr.toNat < 0xA00 := by omega
  have h2 : ¬ addr.toNat < 0xB00 := by omega
  have h3 : addr.toNat < 0xB40 := by omega
  unfold tableWord
  simp only [h1, h2, h3, dite_true, dite_false]
  refine congrArg₂ TableWord.matchWord (Fin.ext ?_) (Fin.ext ?_) <;> dsimp only <;> omega

theorem tableWord_event {r : RecordNo} {k : Fin 40} (h : addr.toNat = 0xC00 + 40 * r.val + k.val) :
    tableWord addr = .eventWord r k := by
  have hr := r.isLt
  have hk := k.isLt
  have h1 : ¬ addr.toNat < 0xA00 := by omega
  have h2 : ¬ addr.toNat < 0xB00 := by omega
  have h3 : ¬ addr.toNat < 0xB40 := by omega
  have h4 : ¬ addr.toNat < 0xC00 := by omega
  have h5 : addr.toNat < 0xFC0 := by omega
  unfold tableWord
  simp only [h1, h2, h3, h4, h5, dite_true, dite_false, if_false]
  refine congrArg₂ TableWord.eventWord (Fin.ext ?_) (Fin.ext ?_) <;> dsimp only <;> omega

theorem tableWord_empty (h : (0xB40 ≤ addr.toNat ∧ addr.toNat < 0xC00) ∨ 0xFC0 ≤ addr.toNat) :
    tableWord addr = .emptyWord := by
  have h1 : ¬ addr.toNat < 0xA00 := by omega
  have h2 : ¬ addr.toNat < 0xB00 := by omega
  have h3 : ¬ addr.toNat < 0xB40 := by omega
  unfold tableWord
  simp only [h1, h2, h3, dite_false]
  split
  · rfl
  · rw [dif_neg]; omega

/-- The owner and the place of a word fix its address. -/
theorem tableWord_address :
    match tableWord addr with
    | .slotWord n k => addr.toNat = 80 * n.val + k.val
    | .stationWord a k => addr.toNat = 0xA00 + 8 * a.val + k.val
    | .matchWord i k => addr.toNat = 0xB00 + 8 * i.val + k.val
    | .eventWord r k => addr.toNat = 0xC00 + 40 * r.val + k.val
    | .emptyWord => (0xB40 ≤ addr.toNat ∧ addr.toNat < 0xC00) ∨ 0xFC0 ≤ addr.toNat := by
  unfold tableWord
  dsimp only
  split_ifs <;> dsimp only <;> omega

end Sys2Proof.Machine
end

