-- ==== Sys2Proof/Laws/Wire.lean ====
section
/-! SUPPORT. The bits of the frame going out, octet by octet (R1, R9). -/

namespace Sys2Proof.Machine

theorem octetBits_length (o : Octet) : (octetBits o).length = 10 := rfl

theorem octetBits_start (o : Octet) : (octetBits o).getD 0 true = false := rfl

theorem octetBits_data (o : Octet) (j : Fin 8) : (octetBits o).getD (1 + j.val) true = o.getLsbD j.val := by
  fin_cases j <;> rfl

theorem octetBits_stop (o : Octet) : (octetBits o).getD 9 true = true := rfl

theorem frameBits_nil : frameBits [] = [] := rfl

theorem frameBits_cons (o : Octet) (frame : List Octet) : frameBits (o :: frame) = octetBits o ++ frameBits frame := rfl

@[simp] theorem frameBits_length (frame : List Octet) : (frameBits frame).length = 10 * frame.length := by
  induction frame with
  | nil => rfl
  | cons o rest ih => rw [frameBits_cons, List.length_append, ih, octetBits_length, List.length_cons]; omega

/-- Bit `10k + i` of a frame is bit `i` of its octet `k`. -/
theorem frameBits_getD (frame : List Octet) (k : Fin frame.length) (i : Fin 10) :
    (frameBits frame).getD (10 * k.val + i.val) true = (octetBits frame[k]).getD i.val true := by
  induction frame with
  | nil => exact k.elim0
  | cons o rest ih =>
    rw [frameBits_cons]
    obtain ⟨k, hk⟩ := k
    cases k with
    | zero =>
      rw [List.getD_append _ _ _ _ (by simp [octetBits_length])]
      simp
    | succ k =>
      have hk' : k < rest.length := by simpa using hk
      rw [List.getD_append_right _ _ _ _ (by simp only [octetBits_length]; omega)]
      have := ih ⟨k, hk'⟩
      simpa [octetBits_length, show 10 * (k + 1) + i.val - 10 = 10 * k + i.val by omega] using this

/-- Beyond its last stop bit a frame has no bit, and the line marks. -/
theorem frameBits_beyond {frame : List Octet} {i : Nat} (h : 10 * frame.length ≤ i) :
    (frameBits frame).getD i true = true :=
  List.getD_eq_default _ _ (by simpa using h)

end Sys2Proof.Machine
end

