-- ==== Sys2Proof/WellFormed.lean ====
section
/-! DEFINITION. When a command is well formed: its operands are those of its own row of the table. The meaning of
an ill-formed command is still total (log 5, log 6): a register write whose word or select belongs to another row
is that other row's write. -/

namespace Sys2Proof

/-- The selects A5…A1 of the registers whose write has a row of its own (R162, 11.1): CONTROL, CAUSE, COMMAND,
STATION CHANGES LOW and HIGH, WINDOW DATA and COALESCE. STATUS has one only for a word with a one at bit 4. -/
def Instr.hasOwnRow (select : BitVec 5) (word : Word) : Bool :=
  select.toNat ∈ [1, 3, 5, 13, 14, 16, 21] || (select == 2 && word.getLsbD 4)

/-- The checks on a command's operands. -/
def Instr.wellFormed : Instr → Bool
  | .unknownCommandCode code => code.toNat = 0 || 11 < code.toNat
  | .runWrite1 w => w.getLsbD 0 && !w.getLsbD 2
  | .runWrite0 w => !w.getLsbD 0 && !w.getLsbD 2
  | .interruptEnableWrite w => !w.getLsbD 2
  | .chipReset w => w.getLsbD 2
  | .refusedFlagClear w => w.getLsbD 4
  | .registerWrite sel w => !hasOwnRow sel w
  | .answer run => !run.isEmpty
  | .ignoredRun run => !run.isEmpty
  | .answerBegins t => 0 < t
  | .allocate | .post | .release | .retire | .cancel | .stationEnable | .stationDisable | .revive
  | .unquarantine | .eventFree | .initialise | .causeWrite _ | .stationChangesWrite _ _ | .coalesceWrite _
  | .windowDataRead | .windowDataWrite _ | .pinReset | .resetRelease | .powerOn | .sweepEnd | .lineClockStep
  | .deadlineExpiry | .holdExpiry | .coalescingTimerExpiry | .settleEnd | .contention | .lfault _
  | .turnaroundGapEnd | .lineSchedulerChoice | .frameCompletelySent | .echoFault _ | .answerWindowClose
  | .outcomeTaken => true

end Sys2Proof
end

