-- ==== Sys2Proof/Tests/Slice0.lean ====
section
/-! SUPPORT. The model's own tests: the checks of WellFormed, the spec's check values, one or two small tests of each command,
and for each statement with hypotheses concrete states that meet them, clause by clause. -/

namespace Sys2Proof.Tests

open Sys2Proof.Machine

set_option Elab.async false

/-! ## Small states -/

/-- The state that a command leaves. -/
def after (c : Instr) (s : State) : State :=
  match exec c s with
  | .next t => t
  | .fault _ => s
  | .refused _ => s

/-- The 3120 after the sweep, with the line OFF and nothing latched. -/
def ready : State := { State.reset with hostPort := { State.reset.hostPort with sweep := false } }

/-- The operands in COMMAND ARG. -/
def arg (w : Word) (s : State) : State := s.onHost fun h => { h with commandArg := w }

/-- The window address. -/
def window (a : BitVec 12) (s : State) : State := s.onHost fun h => { h with windowAddress := a }

/-- A slot of station 5 in a state. -/
def slotOf (st : SlotState) : Slot := { Slot.zero with state := st, station := 5 }

/-- A station in a state, polled for replies and events. -/
def stationOf (st : StationState) : Station :=
  { Station.zero with state := st, creditLimit := 2, pollMode := .repliesAndEvents }

def slot (n : SlotNo) (r : Slot) (s : State) : State := s.modifySlot n fun _ => r
def station (a : Address) (e : Station) (s : State) : State := s.modifyStation a fun _ => e
def lineAt (l : LineState) (s : State) : State := s.onEngine fun e => { e with state := l, gapPassed := true }
def flight (x : Exchange) (s : State) : State := s.onScheduler fun l => { l with exchange := some x }
def asserted (s : State) : State := s.onPins fun p => { p with reset := true }
def sweeping (s : State) : State := s.onHost fun h => { h with sweep := true }
def queued (l : Level) (n : SlotNo) (s : State) : State :=
  (s.modifySlot n fun _ => slotOf .queued).onDispatch (· ++ [⟨l, some n⟩])

/-- An exchange with station 5 in a phase. -/
def exchangeOf (k : ExchangeKind) (p : Phase) : Exchange := { kind := k, station := 5, frame := [0xA5], phase := p }

/-- The line RUNNING with an exchange of station 5, which is ACTIVE, in flight. -/
def running (k : ExchangeKind) (p : Phase) : State :=
  flight (exchangeOf k p) (lineAt .running (station 5 (stationOf .active) ready))

/-- The same with slot 3 in a state. -/
def runningSlot (st : SlotState) (k : ExchangeKind) (p : Phase) : State := slot 3 (slotOf st) (running k p)

/-! ## WellFormed: one ill-formed term for each check -/

theorem test_illFormed_unknownCommandCode : (Instr.unknownCommandCode 11).wellFormed = false := by decide
theorem test_illFormed_runWrite1 : (Instr.runWrite1 0).wellFormed = false := by decide
theorem test_illFormed_runWrite1_reset : (Instr.runWrite1 5).wellFormed = false := by decide
theorem test_illFormed_runWrite0 : (Instr.runWrite0 1).wellFormed = false := by decide
theorem test_illFormed_interruptEnableWrite : (Instr.interruptEnableWrite 6).wellFormed = false := by decide
theorem test_illFormed_chipReset : (Instr.chipReset 3).wellFormed = false := by decide
theorem test_illFormed_refusedFlagClear : (Instr.refusedFlagClear 0).wellFormed = false := by decide
theorem test_illFormed_registerWrite : (Instr.registerWrite 3 0).wellFormed = false := by decide
theorem test_illFormed_answer : (Instr.answer []).wellFormed = false := by decide
theorem test_illFormed_ignoredRun : (Instr.ignoredRun []).wellFormed = false := by decide
theorem test_illFormed_answerBegins : (Instr.answerBegins 0).wellFormed = false := by decide
theorem test_wellFormed_codes :
    (Instr.unknownCommandCode 0).wellFormed = true ∧ (Instr.unknownCommandCode 12).wellFormed = true := by decide

/-! ## Decode: the table gives no bits -/

theorem test_noWordSpellsACommand : decodeTableWord 16 0x0001 = none := by decide
theorem test_withFetchWord_unchanged : State.reset.withFetchWord 16 1 = State.reset := by rfl

/-! ## The check values that the spec gives (R8, 06, 12) -/

theorem test_check_ofNone : check [] = 0xFFFF := by decide
theorem test_check_ofDigits : check [0x31, 0x32, 0x33, 0x34, 0x35, 0x36, 0x37, 0x38, 0x39] = 0x29B1 := by
  decide +kernel
theorem test_check_ofOneOctet :
    check [0x04] = 0xA174 ∧ check [0x01] = 0xF1D1 ∧ check [0x00] = 0xE1F0 ∧ check [0x81] = 0x6059 := by
  decide +kernel
theorem test_resultWords : Result.word (.badRecord .requestLength) = 0x0404 ∧ Result.word .badOperand = 9 := by
  decide +kernel

/-! ## The commands -/

theorem test_allocate : ((after .allocate ready).slot 0).state = .owned := by decide +kernel
theorem test_post :
    (after .post (slot 0 (slotOf .owned) (station 5 (stationOf .active) ready))).dispatchQueue =
      [⟨.normal, some 0⟩] := by decide +kernel
theorem test_release : ((after .release (slot 0 (slotOf .owned) ready)).slot 0).state = .free := by decide +kernel
theorem test_retire : ((after .retire (slot 0 (slotOf .done) ready)).slot 0).state = .free := by decide +kernel
theorem test_cancel : (after .cancel (slot 0 (slotOf .waiting) ready)).cancelList = [0] := by decide +kernel
theorem test_stationEnable : ((after .stationEnable (arg 5 ready)).station 5).state = .unknown := by decide +kernel
theorem test_stationDisable :
    ((after .stationDisable (arg 5 (station 5 (stationOf .active) ready))).station 5).state = .disabled := by
  decide +kernel
theorem test_revive :
    ((after .revive (arg 5 (station 5 (stationOf .offline) ready))).station 5).state = .unknown := by decide +kernel
theorem test_unquarantine :
    ((after .unquarantine (arg 0x0305 (station 5 { stationOf .active with quarantine := 9 } ready))).station
      5).quarantine = 1 := by decide +kernel
theorem test_eventFree :
    (after .eventFree (ready.onPool fun p => { p with free := [2], queueA := [1] })).eventPool.free = [1, 2] := by
  decide +kernel
theorem test_initialise : (after .initialise ready).hostPort.sweep = true := by decide +kernel
theorem test_unknownCommandCode : (after (.unknownCommandCode 12) ready).hostPort.result = .badOperand := by
  decide +kernel
theorem test_runWrite1 : (after (.runWrite1 1) ready).lineEngine.state = .starting := by decide +kernel
theorem test_runWrite0 : (after (.runWrite0 0) (lineAt .running ready)).lineEngine.state = .off := by decide +kernel
theorem test_interruptEnableWrite :
    (after (.interruptEnableWrite 2) ready).completionUnit.interruptEnable = true := by decide +kernel
theorem test_chipReset : (after (.chipReset 4) ready).hostPort.resetCause = .chip := by decide +kernel
theorem test_causeWrite :
    (after (.causeWrite 0x0200) (after .sweepEnd State.reset)).completionUnit.causes.initDone = false := by
  decide +kernel
theorem test_refusedFlagClear :
    (after (.refusedFlagClear 16) ready.reportRefusal).hostPort.refusedFlag = false := by decide +kernel
theorem test_stationChangesWrite :
    (after (.stationChangesWrite true 1) (ready.onStations fun t => { t with changes := 0x10002 })).stationTable.changes
      = 2 := by decide +kernel
theorem test_coalesceWrite : (after (.coalesceWrite 0x0503) ready).completionUnit.threshold = 3 := by decide +kernel
theorem test_registerWrite : (after (.registerWrite 6 0x1234) ready).hostPort.commandArg = 0x1234 := by decide +kernel
theorem test_windowDataRead : (after .windowDataRead (window 0xA09 ready)).pins.dataOut = 0x0200 := by decide +kernel
theorem test_windowDataWrite :
    ((after (.windowDataWrite 0x0502) (window 0xA09 ready)).station 1).creditLimit = 5 := by decide +kernel
theorem test_pinReset : (after .pinReset ready).hostPort.sweep = false := by decide +kernel
theorem test_resetRelease : (after .resetRelease (after .pinReset ready)) = State.reset := by decide +kernel
theorem test_powerOn : after .powerOn ready = State.reset := by decide +kernel
theorem test_sweepEnd : (after .sweepEnd State.reset).completionUnit.causes.initDone = true := by decide +kernel
theorem test_lineClockStep : (after .lineClockStep ready).lineEngine.clock = 1 := by decide +kernel
theorem test_deadlineExpiry :
    (after .deadlineExpiry (slot 3 { slotOf .waiting with deadline := 1 } ready)).cancelList = [3] := by decide +kernel
theorem test_holdExpiry :
    ((after .holdExpiry (after .lineClockStep
      (station 5 { stationOf .active with holdRemaining := 1 } ready))).station 5).holdRemaining = 0 := by
  decide +kernel
theorem test_coalescingTimerExpiry :
    (after .coalescingTimerExpiry (ready.onCompletion fun u =>
      { u with queue := [1], timer := some 0 })).completionUnit.causes.complete = true := by decide +kernel
theorem test_settleEnd : (after .settleEnd (lineAt .starting ready)).lineEngine.state = .running := by decide +kernel
theorem test_contention : (after .contention (lineAt .starting ready)).lineEngine.error.kind = .echo := by
  decide +kernel
theorem test_lfault : (after (.lfault true) (lineAt .running ready)).lineEngine.state = .fault := by decide +kernel
theorem test_turnaroundGapEnd : (after .turnaroundGapEnd ready).lineEngine.gapPassed = true := by decide +kernel
theorem test_lineSchedulerChoice_poll :
    ((after .lineSchedulerChoice (lineAt .running (station 5 (stationOf .active)
      ready))).lineScheduler.exchange.map Exchange.kind) = some (.poll (.any 0) .noAck) := by decide +kernel
theorem test_frameCompletelySent :
    (after .frameCompletelySent (running (.request 3) .sending)).phase = some .windowOpen := by decide +kernel
theorem test_echoFault :
    (after (.echoFault 3) (running (.request 3) .sending)).phase = some (.decided .echoFault) := by decide +kernel
theorem test_answerWindowClose :
    (after .answerWindowClose (running (.request 3) .windowOpen)).phase = some (.decided .noAnswer) := by
  decide +kernel
theorem test_answer :
    (after (.answer (cleanRun (sealFrame [8, 5, 3, 0]))) (running (.request 3) .receiving)).phase =
      some (.decided (.answer .accept)) := by decide +kernel
theorem test_answer_checkError :
    (after (.answer (cleanRun [0xA5, 8, 5, 3, 0, 0, 0])) (running (.request 3) .receiving)).phase =
      some (.decided .checkError) := by decide +kernel
theorem test_ignoredRun : after (.ignoredRun (cleanRun [1])) ready = ready := by decide +kernel
theorem test_outcomeTaken :
    ((after .outcomeTaken (runningSlot .sending (.request 3) (.decided (.answer .accept)))).slot 3).state =
      .waiting := by decide +kernel
theorem test_answerBegins :
    (after (.answerBegins 160) (running (.request 3) .windowOpen)).phase = some .receiving := by decide +kernel

/-! ## Statements' hypotheses: the queue, resets and the sweep -/

theorem test_witness_StepRunsFrontCommandOrIdles :
    (∃ (c : Instr) (rest : List Instr) (s : State), s.pending = c :: rest) ∧
    (∃ s : State, s.pending = []) :=
  ⟨⟨.sweepEnd, [], { State.reset with pending := [.sweepEnd] }, by decide +kernel⟩,
   ⟨State.reset, by decide +kernel⟩⟩

/-- A state in which queues, causes and records hold something. -/
def showing : State :=
  { ready with
    eventPool := { ready.eventPool with free := [0, 1], queueA := [23, 4], queueB := [5] }
    stationTable := { ready.stationTable with changes := 0x80010003 }
    completionUnit := { ready.completionUnit with queue := [31, 2], causes := { Causes.clear with stray := true } }
    hostPort := { ready.hostPort with result := .badRecord .requestLength, refusedFlag := true }
    lineEngine :=
      { ready.lineEngine with
        state := .fault, clock := 0x1234, error := { kind := .echo, station := 31, time := 0x0FFF } }
    strayRecord := { station := 31, tag := 1, time := 0x0FFF } }

theorem test_witness_RegistersReadTheStateAndTheirResetValues :
    (∃ s : State, s.pins.reset = false ∧ s.hostPort.sweep = true) ∧
    (∃ s : State, s.pins.reset = false ∧ s.hostPort.sweep = false ∧ s.completionUnit.queue ≠ [] ∧
      s.eventPool.queueA ≠ [] ∧ s.eventPool.queueB ≠ []) ∧
    (∃ select : BitVec 5, select = 26 ∧ 26 ≤ select.toNat) ∧ (∃ select : BitVec 5, select = 31 ∧ 26 ≤ select.toNat) :=
  ⟨⟨State.reset, by decide +kernel⟩, ⟨showing, by decide +kernel⟩, ⟨26, by decide⟩, ⟨31, by decide⟩⟩

/-- STATUS, CAUSE, COMMAND RESULT, the heads and the count, POOL STATUS, STATION CHANGES, LINE CLOCK and the two records. -/
theorem test_registersShown :
    [2, 3, 7, 8, 9, 10, 11, 12, 13, 14, 22, 23, 24].map showing.readRegister =
      [0x0014, 0x0096, 0x0404, 31, 2, 23, 5, 0x0882, 0x0002, 0x8001, 0x1234, 0xFFFF, 0xF87F] := by decide +kernel

theorem test_witness_SweptTableSpaceIsZeroButConfigurationWords :
    (∃ s t u : State, s.pins.reset = true ∧ exec .resetRelease s = .next t ∧ exec .sweepEnd t = .next u) ∧
    (∃ s t u : State, s.pins.reset = false ∧ exec (.chipReset 4) s = .next t ∧ exec .sweepEnd t = .next u) ∧
    (∃ s t u : State, (Ready s ∧ s.lineEngine.state = .off) ∧ exec .initialise s = .next t ∧ exec .sweepEnd t = .next u) :=
  ⟨⟨asserted ready, after .resetRelease (asserted ready), _, by decide +kernel, rfl, rfl⟩,
   ⟨ready, after (.chipReset 4) ready, _, by decide +kernel, rfl, rfl⟩,
   ⟨ready, after .initialise ready, _, by decide +kernel, rfl, rfl⟩⟩

theorem test_witness_PinResetReleaseAndPowerOn :
    (∃ s : State, s.pins.reset = true) ∧
    (∃ s : State, s.pins.reset = false) :=
  ⟨⟨asserted ready, by decide +kernel⟩,
   ⟨ready, by decide +kernel⟩⟩

theorem test_witness_NoAccessWhileResetIsAsserted :
    ∃ (s : State) (c : Instr), s.pins.reset = true ∧ isHostWrite c = true ∧ s.lineEngine.state = .off :=
  ⟨asserted ready, .allocate, by decide +kernel⟩

theorem test_witness_ChipResetResetsAndSweeps :
    (∃ (s : State) (w : Word) (c : Instr), s.pins.reset = false ∧ w.getLsbD 2 = true ∧
      c ∈ [.chipReset w, .runWrite1 w, .runWrite0 w, .interruptEnableWrite w, .registerWrite 1 w] ∧ c = .chipReset 7) ∧
    (∃ (s : State) (w : Word) (c : Instr), s.pins.reset = false ∧ w.getLsbD 2 = true ∧
      c ∈ [.chipReset w, .runWrite1 w, .runWrite0 w, .interruptEnableWrite w, .registerWrite 1 w] ∧
      c = .registerWrite 1 4) :=
  ⟨⟨lineAt .running ready, 7, .chipReset 7, by decide +kernel⟩, ⟨State.reset, 4, .registerWrite 1 4, by decide +kernel⟩⟩

theorem test_witness_SweepEndClearsInitAndStartsTheLine :
    (∃ s : State, s.hostPort.sweep = false) ∧
    (∃ s : State, LineConsistent s ∧ s.hostPort.sweep = true ∧ s.hostPort.run = false) ∧
    (∃ s : State, LineConsistent s ∧ s.hostPort.sweep = true ∧ s.hostPort.run = true ∧ s.pins.lfault = true) :=
  ⟨⟨ready, by decide +kernel⟩,
   ⟨State.reset, by decide +kernel⟩,
   ⟨{ State.reset with hostPort := { State.reset.hostPort with run := true }, pins := { State.reset.pins with lfault := true } }, by decide +kernel⟩⟩

theorem test_witness_InitialiseSweepsWithTheLineOff :
    (∃ s : State, s.pins.reset = false ∧ s.hostPort.sweep = false ∧ s.lineEngine.state = .off) ∧
    (∃ s : State, s.pins.reset = false ∧ s.hostPort.sweep = false ∧ s.lineEngine.state ≠ .off) ∧
    (∃ s : State, s.pins.reset = false ∧ s.hostPort.sweep = true) :=
  ⟨⟨ready, by decide +kernel⟩,
   ⟨lineAt .fault ready, by decide +kernel⟩,
   ⟨State.reset, by decide +kernel⟩⟩

/-! ## Slot commands -/

theorem test_witness_AllocateTakesTheLowestFreeSlot :
    (∃ (s : State) (n : SlotNo), Ready s ∧ (s.slot n).state = .free ∧ ∀ m, m < n → (s.slot m).state ≠ .free) ∧
    (∃ (s : State) (n : SlotNo), n = 31 ∧ Ready s ∧ (s.slot n).state = .free ∧ ∀ m, m < n → (s.slot m).state ≠ .free) ∧
    (∃ s : State, Ready s ∧ ∀ n, (s.slot n).state ≠ .free) :=
  ⟨⟨ready, 0, by decide +kernel⟩,
   ⟨slot 31 Slot.zero (State.onSlots ready fun t => { t with slots := Vector.replicate 32 (slotOf .owned) }), 31, by decide +kernel⟩,
   ⟨State.onSlots ready fun t => { t with slots := Vector.replicate 32 (slotOf .owned) }, by decide +kernel⟩⟩

theorem test_witness_PostQueuesALegalRecord :
    (∃ (s : State) (n : SlotNo) (a : Address), n = 31 ∧ a = 31 ∧ (s.slot n).priority = 1 ∧ Ready s ∧ s.argLow = n.val ∧ (s.slot n).state = .owned ∧ (s.slot n).station.toNat = a.val ∧ a ≠ 0 ∧
      (s.slot n).priority.toNat ≤ 1 ∧ (s.slot n).retryLimit.toNat ≤ 7 ∧ (s.slot n).requestLength.toNat ≤ 64 ∧
      Served (s.station a) ∧ (s.station a).quarantine.getLsbD n.val = false) ∧
    (∃ (s : State) (n : SlotNo) (a : Address), n = 0 ∧ a = 1 ∧ (s.slot n).priority = 0 ∧ Ready s ∧ s.argLow = n.val ∧ (s.slot n).state = .owned ∧ (s.slot n).station.toNat = a.val ∧ a ≠ 0 ∧
      (s.slot n).priority.toNat ≤ 1 ∧ (s.slot n).retryLimit.toNat ≤ 7 ∧ (s.slot n).requestLength.toNat ≤ 64 ∧
      Served (s.station a) ∧ (s.station a).quarantine.getLsbD n.val = false) :=
  ⟨⟨slot 31 { slotOf .owned with station := 31, priority := 1, retryLimit := 7, requestLength := 64 }
     (station 31 (stationOf .unknown) (arg 31 ready)), 31, 31, by decide +kernel⟩,
   ⟨slot 0 { slotOf .owned with station := 1 } (station 1 (stationOf .active) ready), 0, 1, by decide +kernel⟩⟩

/-- The record in slot 0 of a POST, with station 5 in a state and its quarantine set. -/
def posted (r : Slot) (st : StationState) (q : BitVec 32) : State :=
  slot 0 r (station 5 { stationOf st with quarantine := q } ready)

/-- The premise of PostRefusesByTheFirstFailingTest, as the statement writes it. -/
abbrev PostFails (s : State) (n : SlotNo) (r : Result) : Prop :=
  Ready s ∧ s.argLow = n.val ∧
    (if (s.slot n).state ≠ .owned then some Result.wrongState
     else if (s.slot n).station.toNat < 1 ∨ 31 < (s.slot n).station.toNat then some (.badRecord .station)
     else if 1 < (s.slot n).priority.toNat then some (.badRecord .priority)
     else if 7 < (s.slot n).retryLimit.toNat then some (.badRecord .retryLimit)
     else if 64 < (s.slot n).requestLength.toNat then some (.badRecord .requestLength)
     else if (s.station (s.slot n).address).state = .disabled ∨ (s.station (s.slot n).address).state = .offline then
       some .stationUnavailable
     else if (s.station (s.slot n).address).quarantine.getLsbD n.val then some .quarantined
     else none) = some r

theorem test_witness_PostRefusesByTheFirstFailingTest :
    (PostFails (posted (slotOf .queued) .active 0) 0 .wrongState) ∧
    (PostFails (posted { slotOf .owned with station := 0 } .active 0) 0 (.badRecord .station)) ∧
    (PostFails (posted { slotOf .owned with station := 32 } .active 0) 0 (.badRecord .station)) ∧
    (PostFails (posted { slotOf .owned with priority := 2 } .active 0) 0 (.badRecord .priority)) ∧
    (PostFails (posted { slotOf .owned with retryLimit := 8 } .active 0) 0 (.badRecord .retryLimit)) ∧
    (PostFails (posted { slotOf .owned with requestLength := 65 } .active 0) 0 (.badRecord .requestLength)) ∧
    (PostFails (posted (slotOf .owned) .disabled 0) 0 .stationUnavailable) ∧
    (PostFails (posted (slotOf .owned) .offline 0) 0 .stationUnavailable) ∧
    (PostFails (posted (slotOf .owned) .active 1) 0 .quarantined) :=
  ⟨by decide +kernel,
   by decide +kernel,
   by decide +kernel,
   by decide +kernel,
   by decide +kernel,
   by decide +kernel,
   by decide +kernel,
   by decide +kernel,
   by decide +kernel⟩

theorem test_witness_ReleaseFreesAnOwnedSlot :
    (∃ (s : State) (n : SlotNo), Ready s ∧ s.argLow = n.val ∧ (s.slot n).state = .owned) ∧
    (∃ (s : State) (n : SlotNo), Ready s ∧ s.argLow = n.val ∧ (s.slot n).state ≠ .owned) :=
  ⟨⟨slot 31 (slotOf .owned) (arg 31 ready), 31, by decide +kernel⟩,
   ⟨ready, 0, by decide +kernel⟩⟩

theorem test_witness_RetireFreesADoneSlot :
    (∃ (s : State) (n : SlotNo), Ready s ∧ s.argLow = n.val ∧ (s.slot n).state = .done) ∧
    (∃ (s : State) (n : SlotNo), Ready s ∧ s.argLow = n.val ∧ (s.slot n).state ≠ .done) :=
  ⟨⟨slot 31 (slotOf .done) (arg 31 ready), 31, by decide +kernel⟩,
   ⟨ready, 0, by decide +kernel⟩⟩

theorem test_witness_CancelActsByTheSlotsState :
    (∃ (s : State) (n : SlotNo), Ready s ∧ s.argLow = n.val ∧ ((s.slot n).state = .free ∨ (s.slot n).state = .owned ∨ (s.slot n).state = .done)) ∧
    (∃ (s : State) (n : SlotNo), Ready s ∧ s.argLow = n.val ∧ (s.slot n).state = .queued) ∧
    (∃ (s : State) (n : SlotNo), Ready s ∧ s.argLow = n.val ∧ (s.slot n).state = .sending) ∧
    (∃ (s : State) (n : SlotNo), Ready s ∧ s.argLow = n.val ∧ (s.slot n).state = .waiting) ∧
    (∃ (s : State) (n : SlotNo), Ready s ∧ s.argLow = n.val ∧ (s.slot n).state = .cancelling ∧ (s.slot n).cancelInFlight = true) ∧
    (∃ (s : State) (n : SlotNo), Ready s ∧ s.argLow = n.val ∧ (s.slot n).state = .cancelling ∧ (s.slot n).cancelInFlight = false ∧
      s.lineEngine.state = .running) ∧
    (∃ (s : State) (n : SlotNo) (a : Address), Ready s ∧ s.argLow = n.val ∧ (s.slot n).state = .cancelling ∧ (s.slot n).cancelInFlight = false ∧
      s.lineEngine.state ≠ .running ∧ (s.slot n).station.toNat = a.val) :=
  ⟨⟨ready, 0, by decide +kernel⟩,
   ⟨slot 31 (slotOf .queued) (arg 31 ready), 31, by decide +kernel⟩,
   ⟨slot 31 (slotOf .sending) (arg 31 ready), 31, by decide +kernel⟩,
   ⟨slot 31 (slotOf .waiting) (arg 31 ready), 31, by decide +kernel⟩,
   ⟨slot 3 { slotOf .cancelling with cancelInFlight := true } (arg 3 ready), 3, by decide +kernel⟩,
   ⟨slot 3 (slotOf .cancelling) (lineAt .running (arg 3 ready)), 3, by decide +kernel⟩,
   ⟨slot 3 (slotOf .cancelling) (arg 3 ready), 3, 5, by decide +kernel⟩⟩

theorem test_witness_SlotCommandsTestTheirOperand :
    (∃ s : State, s.pins.reset = false ∧ s.hostPort.sweep = false ∧ 31 < s.argLow) ∧
    (∃ s : State, s.pins.reset = false ∧ s.hostPort.sweep = true) :=
  ⟨⟨arg 32 ready, by decide +kernel⟩,
   ⟨State.reset, by decide +kernel⟩⟩

theorem test_witness_CommandWritesAreTestedInOrder :
    (∃ (s : State) (c : Instr) (code : Word), s.pins.reset = false ∧ s.hostPort.sweep = true ∧ commandCode c = some code) ∧
    (∃ (s : State) (code : Word), s.pins.reset = false ∧ s.hostPort.sweep = false ∧ (code = 0 ∨ 11 < code.toNat)) ∧
    (∃ (s : State) (code : Word), s.pins.reset = false ∧ s.hostPort.sweep = false ∧ code = 0) ∧
    (∃ s : State, s.pins.reset = false ∧ s.hostPort.sweep = false ∧ s.argLow = 0) ∧
    (∃ s : State, s.pins.reset = false ∧ s.hostPort.sweep = false ∧ 31 < s.argLow) ∧
    (∃ s : State, s.pins.reset = false ∧ s.hostPort.sweep = false ∧ 31 < s.argHigh) :=
  ⟨⟨State.reset, .unknownCommandCode 12, 12, by decide +kernel⟩,
   ⟨ready, 12, by decide +kernel⟩,
   ⟨ready, 0, by decide +kernel⟩,
   ⟨ready, by decide +kernel⟩,
   ⟨arg 0x0120 ready, by decide +kernel⟩,
   ⟨arg 0x2005 ready, by decide +kernel⟩⟩

/-! ## Station commands and EVENT FREE -/

theorem test_witness_StationEnableAndReviveMakeUnknown :
    (∃ (s : State) (a : Address), Ready s ∧ a ≠ 0 ∧ s.argLow = a.val ∧ (s.station a).state = .disabled) ∧
    (∃ (s : State) (a : Address), Ready s ∧ a ≠ 0 ∧ s.argLow = a.val ∧ (s.station a).state ≠ .disabled ∧ (s.station a).state = .offline) ∧
    (∃ (s : State) (a : Address), Ready s ∧ a ≠ 0 ∧ s.argLow = a.val ∧ (s.station a).state ≠ .offline) :=
  ⟨⟨arg 1 ready, 1, by decide +kernel⟩,
   ⟨station 31 (stationOf .offline) (arg 31 ready), 31, by decide +kernel⟩,
   ⟨arg 31 ready, 31, by decide +kernel⟩⟩

theorem test_witness_StationDisableNeedsNoLiveSlot :
    (∃ (s : State) (a : Address), Ready s ∧ a ≠ 0 ∧ s.argLow = a.val ∧ (s.station a).state = .disabled) ∧
    (∃ (s : State) (a : Address), Ready s ∧ a ≠ 0 ∧ s.argLow = a.val ∧ (s.station a).state ≠ .disabled ∧ ∃ n, (s.slot n).station.toNat = a.val ∧
      ((s.slot n).state = .queued ∨ (s.slot n).state = .sending ∨ (s.slot n).state = .waiting ∨
        (s.slot n).state = .cancelling)) ∧
    (∃ (s : State) (a : Address), Ready s ∧ a ≠ 0 ∧ s.argLow = a.val ∧ (s.station a).state ≠ .disabled ∧ ∀ n, (s.slot n).station.toNat = a.val →
      (s.slot n).state = .free ∨ (s.slot n).state = .owned ∨ (s.slot n).state = .done) :=
  ⟨⟨arg 1 ready, 1, by decide +kernel⟩,
   ⟨slot 3 (slotOf .waiting) (station 5 (stationOf .offline) (arg 5 ready)), 5, by decide +kernel⟩,
   ⟨slot 3 (slotOf .done) (station 5 (stationOf .active) (arg 5 ready)), 5, by decide +kernel⟩⟩

theorem test_witness_UnquarantineRemovesATag :
    (∃ (s : State) (a : Address) (tag : SlotNo), Ready s ∧ a ≠ 0 ∧ s.argLow = a.val ∧ s.argHigh = tag.val ∧ (s.station a).quarantine.getLsbD tag.val = true) ∧
    (∃ (s : State) (a : Address) (tag : SlotNo), Ready s ∧ a ≠ 0 ∧ s.argLow = a.val ∧ s.argHigh = tag.val ∧ (s.station a).quarantine.getLsbD tag.val = false) :=
  ⟨⟨station 5 { stationOf .active with quarantine := 0x80000000 } (arg 0x1F05 ready), 5, 31, by decide +kernel⟩,
   ⟨arg 0x0001 ready, 1, 0, by decide +kernel⟩⟩

theorem test_witness_EventFreeFreesTheHead :
    (∃ (s : State) (r : RecordNo) (rest : List RecordNo), s.pins.reset = false ∧ s.hostPort.sweep = false ∧ PoolPartition s ∧ s.argLow = 0 ∧
      s.eventPool.queueA = r :: rest) ∧
    (∃ (s : State) (r : RecordNo) (rest : List RecordNo), s.pins.reset = false ∧ s.hostPort.sweep = false ∧ PoolPartition s ∧ s.argLow = 1 ∧
      s.eventPool.queueB = r :: rest) ∧
    (∃ s : State, s.pins.reset = false ∧ s.hostPort.sweep = false ∧ s.argLow = 0 ∧ s.eventPool.queueA = []) ∧
    (∃ s : State, s.pins.reset = false ∧ s.hostPort.sweep = false ∧ s.argLow = 1 ∧ s.eventPool.queueB = []) ∧
    (∃ s : State, s.pins.reset = false ∧ s.hostPort.sweep = false ∧ 1 < s.argLow) ∧
    (∃ s : State, s.pins.reset = false ∧ s.hostPort.sweep = true) :=
  ⟨⟨arg 0 (ready.onPool fun p => { p with free := (List.finRange 24).drop 1, queueA := [0] }), 0, [], by decide +kernel⟩,
   ⟨arg 1 (ready.onPool fun p => { p with free := (List.finRange 24).drop 1, queueB := [0] }), 0, [], by decide +kernel⟩,
   ⟨ready, by decide +kernel⟩,
   ⟨arg 1 ready, by decide +kernel⟩,
   ⟨arg 2 ready, by decide +kernel⟩,
   ⟨State.reset, by decide +kernel⟩⟩

/-! ## Writes of the registers -/

theorem test_witness_RunOneStartsTheLine :
    (∃ (s : State) (w : Word), s.pins.reset = false ∧ LineConsistent s ∧ w.getLsbD 0 = true ∧ w.getLsbD 2 = false ∧ s.lineEngine.state = .off ∧ s.hostPort.sweep = false) ∧
    (∃ (s : State) (w : Word), s.pins.reset = false ∧ LineConsistent s ∧ w.getLsbD 0 = true ∧ w.getLsbD 2 = false ∧ s.lineEngine.state = .off ∧ s.hostPort.sweep = true) ∧
    (∃ (s : State) (w : Word), s.pins.reset = false ∧ LineConsistent s ∧ w.getLsbD 0 = true ∧ w.getLsbD 2 = false ∧ s.lineEngine.state = .stopping) :=
  ⟨⟨ready, 1, by decide +kernel⟩,
   ⟨State.reset, 3, by decide +kernel⟩,
   ⟨lineAt .stopping (running (.request 3) .sending), 1, by decide +kernel⟩⟩

theorem test_witness_RunZeroStopsTheLine :
    ∃ (s : State) (w : Word), s.pins.reset = false ∧ w.getLsbD 0 = false ∧ w.getLsbD 2 = false ∧ s.lineEngine.state = .running ∧
      s.lineScheduler.exchange ≠ none :=
  ⟨running (.request 3) .sending, 0, by decide +kernel⟩

theorem test_witness_IntrFollowsCausesAndEnables :
    (∃ (s : State) (w : Word), s.pins.reset = false ∧ w.getLsbD 2 = false ∧ w.getLsbD 0 = true ∧ s.lineEngine.state = .fault) ∧
    (∃ (s : State) (w : Word), s.pins.reset = false ∧ w.getLsbD 2 = false ∧ w.getLsbD 0 = false ∧ s.lineEngine.state = .off) ∧
    (∃ s : State, s.intr = true) :=
  ⟨⟨lineAt .fault ready, 3, by decide +kernel⟩,
   ⟨ready, 2, by decide +kernel⟩,
   ⟨after (.registerWrite 4 0x0200) (after (.interruptEnableWrite 2) (after .sweepEnd State.reset)), by decide +kernel⟩⟩

theorem test_witness_CauseWriteClearsLatchedCauses :
    (∃ (s : State) (w : Word), s.pins.reset = false ∧ w.getLsbD 0 = true ∧ s.completionUnit.causes.complete = true ∧ s.completionUnit.queue = []) ∧
    (∃ (s : State) (w : Word), s.pins.reset = false ∧ w.getLsbD 0 = true ∧ s.completionUnit.causes.complete = true ∧ s.completionUnit.queue ≠ [] ∧
      s.completionUnit.threshold ≤ s.completionUnit.queue.length) ∧
    (∃ (s : State) (w : Word), s.pins.reset = false ∧ w.getLsbD 0 = true ∧ s.completionUnit.causes.complete = true ∧ s.completionUnit.queue ≠ [] ∧
      s.completionUnit.queue.length < s.completionUnit.threshold ∧ s.completionUnit.holdoff ≠ 0) ∧
    (∃ (s : State) (w : Word), s.pins.reset = false ∧ w.getLsbD 0 = false) :=
  ⟨⟨ready.onCompletion fun u => { u with queue := [], threshold := 1, holdoff := 0, causes := { u.causes with complete := true } }, 1, by decide +kernel⟩,
   ⟨ready.onCompletion fun u => { u with queue := [1], threshold := 1, holdoff := 5, causes := { u.causes with complete := true } }, 1, by decide +kernel⟩,
   ⟨ready.onCompletion fun u => { u with queue := [1], threshold := 2, holdoff := 5, causes := { u.causes with complete := true } }, 1, by decide +kernel⟩,
   ⟨ready, 0x03FE, by decide +kernel⟩⟩

theorem test_witness_StationChangesWriteRemovesAddresses :
    ∃ s : State, s.pins.reset = false :=
  ⟨ready, by decide +kernel⟩

theorem test_witness_CoalesceWriteSetsThresholdAndHoldoff :
    (∃ (s : State) (w : Word), s.pins.reset = false ∧ w.toNat % 64 = 0) ∧
    (∃ (s : State) (w : Word), s.pins.reset = false ∧ 32 < w.toNat % 64) ∧
    (∃ (s : State) (w : Word), s.pins.reset = false ∧ 1 ≤ w.toNat % 64 ∧ w.toNat % 64 ≤ 32) ∧
    (∃ (s : State) (w : Word), s.pins.reset = false ∧ 1 ≤ w.toNat % 64 ∧ w.toNat % 64 ≤ 32 ∧ w.toNat / 256 = 255) :=
  ⟨⟨ready, 0, by decide +kernel⟩,
   ⟨ready, 33, by decide +kernel⟩,
   ⟨ready, 1, by decide +kernel⟩,
   ⟨ready, 0xFF20, by decide +kernel⟩⟩

theorem test_witness_TestedRegisterWritesAcceptOrRefuseWhole :
    (∃ (s : State) (w : Word), s.pins.reset = false ∧ s.lineEngine.state = .off ∧ w.toNat % 8 ≤ 3) ∧
    (∃ (s : State) (w : Word), s.pins.reset = false ∧ s.lineEngine.state = .off ∧ ¬ w.toNat % 8 ≤ 3) ∧
    (∃ s : State, s.pins.reset = false ∧ s.lineEngine.state ≠ .off) ∧
    (∃ (s : State) (w : Word), s.pins.reset = false ∧ s.lineEngine.state = .off ∧ 32 ≤ w.toNat % 1024) ∧
    (∃ (s : State) (w : Word), s.pins.reset = false ∧ s.lineEngine.state = .off ∧ ¬ 32 ≤ w.toNat % 1024) ∧
    (∃ (s : State) (w : Word), s.pins.reset = false ∧ 1 ≤ w.toNat % 16 ∧ 1 ≤ w.toNat / 256 % 16 ∧ w.toNat / 256 % 16 ≤ 8) ∧
    (∃ (s : State) (w : Word), s.pins.reset = false ∧ 8 < w.toNat / 256 % 16) ∧
    (∃ (s : State) (w : Word), s.pins.reset = false ∧ 1 ≤ w.toNat ∧ w.toNat ≤ 255) ∧
    (∃ (s : State) (w : Word), s.pins.reset = false ∧ ¬ w.toNat ≤ 255) ∧
    (∃ (s : State) (w : Word), s.pins.reset = false ∧ w.toNat / 16 % 4 ≤ 2) ∧
    (∃ (s : State) (w : Word), s.pins.reset = false ∧ ¬ w.toNat / 16 % 4 ≤ 2) :=
  ⟨⟨ready, 3, by decide +kernel⟩,
   ⟨ready, 4, by decide +kernel⟩,
   ⟨lineAt .running ready, by decide +kernel⟩,
   ⟨ready, 32, by decide +kernel⟩,
   ⟨ready, 31, by decide +kernel⟩,
   ⟨ready, 0x080F, by decide +kernel⟩,
   ⟨ready, 0x0901, by decide +kernel⟩,
   ⟨ready, 255, by decide +kernel⟩,
   ⟨ready, 256, by decide +kernel⟩,
   ⟨ready, 0x21, by decide +kernel⟩,
   ⟨ready, 0x30, by decide +kernel⟩⟩

theorem test_witness_AcceptedAndIgnoredRegisterWrites :
    (∃ (s : State) (w : Word), s.pins.reset = false ∧ w.getLsbD 4 = true) ∧
    (∃ (s : State) (w : Word), s.pins.reset = false ∧ w.getLsbD 4 = false) ∧
    (∃ select : BitVec 5, select.toNat ∈ [0, 7, 8, 9, 10, 11, 12, 22, 23, 24, 26, 27, 28, 29, 30, 31]) :=
  ⟨⟨ready.reportRefusal, 16, by decide +kernel⟩,
   ⟨ready, 0xFFEF, by decide +kernel⟩,
   ⟨26, by decide +kernel⟩⟩

/-! ## The window -/

theorem test_witness_WindowReadDrivesTheWord :
    (∃ s : State, s.pins.reset = false ∧ s.hostPort.sweep = true) ∧
    (∃ s : State, s.pins.reset = false ∧ s.hostPort.sweep = false ∧ 0xB40 = s.hostPort.windowAddress.toNat) ∧
    (∃ s : State, s.pins.reset = false ∧ s.hostPort.sweep = false ∧ s.hostPort.windowAddress.toNat = 0xBFF) ∧
    (∃ s : State, s.pins.reset = false ∧ s.hostPort.sweep = false ∧ 0xFC0 = s.hostPort.windowAddress.toNat) ∧
    (∃ s : State, s.pins.reset = false ∧ s.hostPort.sweep = false ∧ s.hostPort.windowAddress.toNat = 0xFBF) :=
  ⟨⟨State.reset, by decide +kernel⟩,
   ⟨window 0xB40 ready, by decide +kernel⟩,
   ⟨window 0xBFF ready, by decide +kernel⟩,
   ⟨window 0xFC0 ready, by decide +kernel⟩,
   ⟨window 0xFBF ready, by decide +kernel⟩⟩

theorem test_witness_TableSpaceShowsTheRecords :
    (∃ (addr : BitVec 12) (n : SlotNo) (k : Fin 32), addr.toNat = 80 * n.val + 48 + k.val) ∧
    (∃ (addr : BitVec 12) (n : SlotNo) (k : Fin 16), addr.toNat = 80 * n.val + k.val) ∧
    (∃ (addr : BitVec 12) (a : Address) (k : Fin 8), addr.toNat = 0xA00 + 8 * a.val + k.val) ∧
    (∃ (addr : BitVec 12) (i : EntryNo) (k : Fin 8), addr.toNat = 0xB00 + 8 * i.val + k.val) ∧
    (∃ (addr : BitVec 12) (r : RecordNo) (k : Fin 32), addr.toNat = 0xC00 + 40 * r.val + 8 + k.val) :=
  ⟨⟨0x9FF, 31, 31, by decide +kernel⟩,
   ⟨0x000, 0, 0, by decide +kernel⟩,
   ⟨0xAFF, 31, 7, by decide +kernel⟩,
   ⟨0xB3F, 7, 7, by decide +kernel⟩,
   ⟨0xFBF, 23, 31, by decide +kernel⟩⟩

theorem test_witness_WindowWriteReplacesTheWord :
    (∃ (s : State) (n : SlotNo) (k : Nat), Ready s ∧ (s.slot n).state = .owned ∧ (1 ≤ k ∧ k ≤ 5 ∨ 16 ≤ k ∧ k ≤ 47) ∧
      s.hostPort.windowAddress.toNat = 80 * n.val + k) ∧
    (∃ (s : State) (a : Address) (w : Word), Ready s ∧ a ≠ 0 ∧ s.hostPort.windowAddress.toNat = 0xA00 + 8 * a.val + 1 ∧ w.toNat % 4 ≤ 2 ∧
      1 ≤ w.toNat / 256 % 16 ∧ w.toNat / 256 % 16 ≤ 8) ∧
    (∃ (s : State) (i : EntryNo) (w : Word), Ready s ∧ s.hostPort.windowAddress.toNat = 0xB00 + 8 * i.val ∧ w.toNat / 16 % 4 ≤ 2 ∧
      w.toNat / 256 % 4 ≤ 2) ∧
    (∃ (s : State) (i : EntryNo) (w : Word), Ready s ∧ s.hostPort.windowAddress.toNat = 0xB00 + 8 * i.val + 1 ∧ w.toNat % 256 ≤ 31 ∧
      w.toNat / 256 ≤ 63) ∧
    (∃ (s : State) (i : EntryNo), Ready s ∧ s.hostPort.windowAddress.toNat = 0xB00 + 8 * i.val + 3) :=
  ⟨⟨window 0x9DF (slot 31 (slotOf .owned) ready), 31, 47, by decide +kernel⟩,
   ⟨window 0xAF9 ready, 31, 0x0802, by decide +kernel⟩,
   ⟨window 0xB38 ready, 7, 0x1227, by decide +kernel⟩,
   ⟨window 0xB01 ready, 0, 0x3F1F, by decide +kernel⟩,
   ⟨window 0xB3B ready, 7, by decide +kernel⟩⟩

theorem test_witness_WindowWriteRefusals :
    (∃ s : State, s.pins.reset = false ∧ s.hostPort.sweep = true) ∧
    (∃ s : State, s.pins.reset = false ∧ 0xB40 ≤ s.hostPort.windowAddress.toNat ∧ s.hostPort.windowAddress.toNat < 0xC00) ∧
    (∃ (s : State) (n : SlotNo) (k : Nat), s.pins.reset = false ∧ (1 ≤ k ∧ k ≤ 5 ∨ 16 ≤ k ∧ k ≤ 47) ∧ s.hostPort.windowAddress.toNat = 80 * n.val + k ∧
      (s.slot n).state ≠ .owned) ∧
    (∃ (s : State) (n : SlotNo) (k : Nat), s.pins.reset = false ∧ (k = 0 ∨ 6 ≤ k ∧ k ≤ 15 ∨ 48 ≤ k ∧ k ≤ 79) ∧ s.hostPort.windowAddress.toNat = 80 * n.val + k) ∧
    (∃ (s : State) (a : Address) (k : Fin 8), s.pins.reset = false ∧ (a = 0 ∨ k ≠ 1) ∧ s.hostPort.windowAddress.toNat = 0xA00 + 8 * a.val + k.val) ∧
    (∃ (s : State) (a : Address) (w : Word), s.pins.reset = false ∧ s.hostPort.windowAddress.toNat = 0xA00 + 8 * a.val + 1 ∧
      (w.toNat % 4 = 3 ∨ w.toNat / 256 % 16 = 0 ∨ 8 < w.toNat / 256 % 16)) ∧
    (∃ (s : State) (i : EntryNo) (w : Word), s.pins.reset = false ∧ s.hostPort.windowAddress.toNat = 0xB00 + 8 * i.val ∧
      (w.toNat / 16 % 4 = 3 ∨ w.toNat / 256 % 4 = 3)) ∧
    (∃ (s : State) (i : EntryNo) (w : Word), s.pins.reset = false ∧ s.hostPort.windowAddress.toNat = 0xB00 + 8 * i.val + 1 ∧
      (31 < w.toNat % 256 ∨ 63 < w.toNat / 256)) ∧
    (∃ (s : State) (i : EntryNo) (k : Fin 8), s.pins.reset = false ∧ 4 ≤ k ∧ s.hostPort.windowAddress.toNat = 0xB00 + 8 * i.val + k.val) ∧
    (∃ s : State, s.pins.reset = false ∧ 0xC00 ≤ s.hostPort.windowAddress.toNat) :=
  ⟨⟨State.reset, by decide +kernel⟩,
   ⟨window 0xB40 ready, by decide +kernel⟩,
   ⟨window 47 ready, 0, 47, by decide +kernel⟩,
   ⟨window 48 ready, 0, 48, by decide +kernel⟩,
   ⟨window 0xA01 ready, 0, 1, by decide +kernel⟩,
   ⟨window 0xA09 ready, 1, 0x0901, by decide +kernel⟩,
   ⟨window 0xB00 ready, 0, 0x0030, by decide +kernel⟩,
   ⟨window 0xB01 ready, 0, 32, by decide +kernel⟩,
   ⟨window 0xB04 ready, 0, 4, by decide +kernel⟩,
   ⟨window 0xC00 ready, by decide +kernel⟩⟩

/-! ## The timers -/

theorem test_witness_ClockStepCountsDown :
    (∃ s : State, s.pins.reset = false ∧
      (∀ n, ¬ ((s.slot n).state = .waiting ∧ (s.slot n).deadline ≠ 0 ∧ (s.slot n).deadlineRemaining = 0)) ∧
      (∀ a, (s.station a).holdDue = false) ∧ s.completionUnit.timer ≠ some 0) ∧
    (∃ s s1 s2 s3 : State, s.pins.reset = false ∧ exec .deadlineExpiry s = .next s1 ∧ exec .holdExpiry s1 = .next s2 ∧
      exec .coalescingTimerExpiry s2 = .next s3) :=
  ⟨⟨slot 3 { slotOf .waiting with deadline := 2, deadlineRemaining := 1 }
     (station 5 { stationOf .active with holdRemaining := 1 } ready), by decide +kernel⟩,
   ⟨ready, after .deadlineExpiry ready, after .holdExpiry (after .deadlineExpiry ready), _, by decide +kernel, rfl, rfl,
    rfl⟩⟩

theorem test_witness_ExpiriesAreTaken :
    (∃ s : State, s.completionUnit.timer = some 0) ∧
    (∃ s : State, s.completionUnit.timer ≠ some 0) :=
  ⟨⟨ready.onCompletion fun u => { u with timer := some 0 }, by decide +kernel⟩,
   ⟨ready, by decide +kernel⟩⟩

/-! ## The line -/

theorem test_witness_SettleEndsInRunningOrFault :
    (∃ s : State, s.lineEngine.state = .starting ∧ LineConsistent s) ∧
    (∃ s : State, s.lineEngine.state ≠ .starting) :=
  ⟨⟨lineAt .starting ready, by decide +kernel⟩,
   ⟨ready, by decide +kernel⟩⟩

theorem test_witness_LfaultMovesTheLineToFault :
    (∃ s : State, s.lineEngine.state = .fault) ∧
    (∃ s : State, s.lineEngine.state = .starting ∧ s.lineScheduler.exchange = none) ∧
    (∃ (s : State) (x : Exchange) (o : ExchangeOutcome), s.lineEngine.state = .stopping ∧ s.lineScheduler.exchange = some x ∧
      x.phase = .decided o) ∧
    (∃ (s : State) (x : Exchange), s.lineEngine.state = .running ∧ s.lineScheduler.exchange = some x ∧ x.phase = .sending) :=
  ⟨⟨lineAt .fault ready, by decide +kernel⟩,
   ⟨lineAt .starting ready, by decide +kernel⟩,
   ⟨lineAt .stopping (running (.request 3) (.decided .noAnswer)), exchangeOf (.request 3) (.decided .noAnswer), .noAnswer, by decide +kernel⟩,
   ⟨running (.request 3) .sending, exchangeOf (.request 3) .sending, by decide +kernel⟩⟩

theorem test_witness_StagesOfAnExchange :
    (∃ s : State, s.lineScheduler.exchange = none) ∧
    (∃ (s : State) (x : Exchange), s.lineScheduler.exchange = some x ∧ x.phase = .sending) ∧
    (∃ (s : State) (x : Exchange), s.lineScheduler.exchange = some x ∧ x.phase = .windowOpen) ∧
    (∃ (s : State) (x : Exchange), s.lineScheduler.exchange = some x ∧ x.phase = .receiving) ∧
    (∃ (s : State) (x : Exchange), s.lineScheduler.exchange = some x ∧ x.phase = (.decided .noAnswer)) ∧
    (∃ (s : State) (bit : Nat), 1 ≤ bit ∧ bit ≤ s.lineEngine.answerWindow) ∧
    (∃ (s : State) (bit : Nat), s.lineEngine.answerWindow < bit) ∧
    (∃ s : State, s.lineEngine.state = .off) ∧ (∃ s : State, s.lineEngine.state = .fault) ∧
    (∃ s : State, s.lineEngine.state = .starting) ∧
    (∃ (s : State) (x : Exchange), s.lineEngine.state = .running ∧ s.lineScheduler.exchange = some x ∧
      x.phase = .sending ∧ x.frame.length = 1) ∧
    (∃ (s : State) (x : Exchange), s.lineEngine.state = .stopping ∧ s.lineScheduler.exchange = some x ∧
      x.phase = .sending ∧ x.frame.length = 1) ∧
    (∃ s : State, s.lineEngine.state = .running ∧ ∀ x, s.lineScheduler.exchange = some x → x.phase ≠ .sending) ∧
    (∃ s : State, s.lineEngine.state = .stopping ∧ ∀ x, s.lineScheduler.exchange = some x → x.phase ≠ .sending) :=
  ⟨⟨ready, by decide +kernel⟩,
   ⟨running (.request 3) .sending, exchangeOf (.request 3) .sending, by decide +kernel⟩,
   ⟨running (.request 3) .windowOpen, exchangeOf (.request 3) .windowOpen, by decide +kernel⟩,
   ⟨running (.request 3) .receiving, exchangeOf (.request 3) .receiving, by decide +kernel⟩,
   ⟨running (.request 3) (.decided .noAnswer), exchangeOf (.request 3) (.decided .noAnswer), by decide +kernel⟩,
   ⟨ready, 160, by decide +kernel⟩,
   ⟨ready, 161, by decide +kernel⟩,
   ⟨ready, rfl⟩, ⟨lineAt .fault ready, rfl⟩, ⟨lineAt .starting ready, rfl⟩,
   ⟨running (.request 3) .sending, exchangeOf (.request 3) .sending, by decide +kernel⟩,
   ⟨lineAt .stopping (running (.request 3) .sending), exchangeOf (.request 3) .sending, by decide +kernel⟩,
   ⟨lineAt .running ready, rfl, by rintro x ⟨⟩⟩,
   ⟨lineAt .stopping (running (.request 3) .windowOpen), rfl, by rintro x ⟨⟩; decide⟩⟩

/-- The octet A5h as TXD carries it: start bit, 1 0 1 0 0 1 0 1, stop bit, and marking after it. -/
theorem test_txd :
    (List.range 12).map (running (.request 3) .sending).txd =
      [false, true, false, true, false, false, true, false, true, true, true, true] := by decide +kernel

theorem test_de :
    (running (.request 3) .sending).de = true ∧ (running (.request 3) .windowOpen).de = false ∧
    (lineAt .starting ready).de = true ∧ ready.de = false := by decide +kernel

theorem test_witness_EchoFaultAbandonsTheFrame :
    (∃ (s : State) (x : Exchange) (bit : Nat), s.lineScheduler.exchange = some x ∧ x.phase = .sending ∧ 10 * x.frame.length ≤ bit) ∧
    (∃ (s : State) (x : Exchange) (bit : Nat), s.lineScheduler.exchange = some x ∧ x.phase = .sending ∧ bit < 10 * x.frame.length ∧ s.lineEngine.echoCount < 2) ∧
    (∃ (s : State) (x : Exchange) (bit : Nat), s.lineScheduler.exchange = some x ∧ x.phase = .sending ∧ bit < 10 * x.frame.length ∧ s.lineEngine.echoCount = 2) :=
  ⟨⟨running (.request 3) .sending, exchangeOf (.request 3) .sending, 10, by decide +kernel⟩,
   ⟨running (.request 3) .sending, exchangeOf (.request 3) .sending, 9, by decide +kernel⟩,
   ⟨(running (.request 3) .sending).onEngine fun e => { e with echoCount := 2 }, exchangeOf (.request 3) .sending, 0, by decide +kernel⟩⟩

/-- A frame of station 5 with tag 3. -/
def answerFrame (kind : Octet) (extra payload : List Octet) : AnswerFrame :=
  { kind := kind, address := 5, tag := 3, extra := extra, payload := payload }

/-- A frame stands at the beginning of the run of its own octets. -/
theorem beginsWith_cleanRun (f : AnswerFrame) : BeginsWith f (cleanRun f.octets) := by
  refine ⟨cleanRun f.octets, [], by simp, ?_, ?_, ?_⟩
  · simp [cleanRun, Function.comp_def]
  · intro o ho
    obtain ⟨d, _, rfl⟩ := List.mem_map.1 ho
    rfl
  · intro o ho
    obtain ⟨d, _, rfl⟩ := List.mem_map.1 (List.mem_of_mem_tail ho)
    exact Nat.zero_le _

theorem test_witness_AValidAnswerIsDecided_Accept :
    ∃ (s : State) (x : Exchange) (f : AnswerFrame) (a : Answer), s.lineScheduler.exchange = some x ∧
      (x.phase = .receiving ∨ x.phase = .windowOpen) ∧ f.Sized ∧ BeginsWith f (cleanRun f.octets) ∧ ValidAnswer s x.kind x.station f a :=
  ⟨running (.request 3) .receiving, exchangeOf (.request 3) .receiving, answerFrame 8 [] [], .accept, rfl, .inl rfl, by decide,
    beginsWith_cleanRun _, by decide, .inl ⟨3, rfl, by decide, by decide, rfl, rfl⟩⟩

theorem test_witness_AValidAnswerIsDecided_Refuse :
    ∃ (s : State) (x : Exchange) (f : AnswerFrame) (a : Answer), s.lineScheduler.exchange = some x ∧
      (x.phase = .receiving ∨ x.phase = .windowOpen) ∧ f.Sized ∧ BeginsWith f (cleanRun f.octets) ∧ ValidAnswer s x.kind x.station f a :=
  ⟨running (.request 3) .receiving, exchangeOf (.request 3) .receiving, answerFrame 9 [1] [], .refuse 1, rfl, .inl rfl, by decide,
    beginsWith_cleanRun _, by decide, .inr (.inl ⟨3, 1, rfl, by decide, by decide, rfl, rfl, rfl⟩)⟩

theorem test_witness_AValidAnswerIsDecided_ReplyToPoll :
    ∃ (s : State) (x : Exchange) (f : AnswerFrame) (a : Answer), s.lineScheduler.exchange = some x ∧
      (x.phase = .receiving ∨ x.phase = .windowOpen) ∧ f.Sized ∧ BeginsWith f (cleanRun f.octets) ∧ ValidAnswer s x.kind x.station f a :=
  ⟨running (.poll .replyOnly .event) .receiving, exchangeOf (.poll .replyOnly .event) .receiving, answerFrame 26 [7] [1, 2], .reply 3 true 7 [1, 2], rfl, .inl rfl, by decide,
    beginsWith_cleanRun _, by decide, .inr (.inr (.inl ⟨.replyOnly, .event, 3, 7, rfl, by decide, by decide, by decide, rfl, rfl⟩))⟩

theorem test_witness_AValidAnswerIsDecided_ReplyToCancel :
    ∃ (s : State) (x : Exchange) (f : AnswerFrame) (a : Answer), s.lineScheduler.exchange = some x ∧
      (x.phase = .receiving ∨ x.phase = .windowOpen) ∧ f.Sized ∧ BeginsWith f (cleanRun f.octets) ∧ ValidAnswer s x.kind x.station f a :=
  ⟨running (.cancel 3) .receiving, exchangeOf (.cancel 3) .receiving, answerFrame 10 [7] [], .reply 3 false 7 [], rfl, .inl rfl, by decide,
    beginsWith_cleanRun _, by decide, .inr (.inr (.inr (.inl ⟨3, 7, rfl, by decide, by decide, rfl, rfl⟩)))⟩

theorem test_witness_AValidAnswerIsDecided_Idle :
    ∃ (s : State) (x : Exchange) (f : AnswerFrame) (a : Answer), s.lineScheduler.exchange = some x ∧
      (x.phase = .receiving ∨ x.phase = .windowOpen) ∧ f.Sized ∧ BeginsWith f (cleanRun f.octets) ∧ ValidAnswer s x.kind x.station f a :=
  ⟨running (.poll .replyOnly .noAck) .receiving, exchangeOf (.poll .replyOnly .noAck) .receiving, answerFrame 12 [] [], .idle, rfl, .inl rfl, by decide,
    beginsWith_cleanRun _, by decide, .inr (.inr (.inr (.inr (.inr (.inl ⟨.replyOnly, .noAck, rfl, by decide, rfl, rfl⟩)))))⟩

theorem test_witness_AValidAnswerIsDecided_Cancelled :
    ∃ (s : State) (x : Exchange) (f : AnswerFrame) (a : Answer), s.lineScheduler.exchange = some x ∧
      (x.phase = .receiving ∨ x.phase = .windowOpen) ∧ f.Sized ∧ BeginsWith f (cleanRun f.octets) ∧ ValidAnswer s x.kind x.station f a :=
  ⟨running (.cancel 3) .receiving, exchangeOf (.cancel 3) .receiving, answerFrame 13 [] [], .cancelled, rfl, .inl rfl, by decide,
    beginsWith_cleanRun _, by decide, .inr (.inr (.inr (.inr (.inr (.inr ⟨3, rfl, by decide, by decide, rfl, rfl⟩)))))⟩

/-- The EVENT answer to a POLL ANY of the frame `f`, with its relay octets. -/
def eventOf (s : State) (f : AnswerFrame) (relay : Option (Octet × Octet)) : Answer :=
  .event
    { repeatFlag := repeatOf f.kind, relay := relay, payload := f.payload, arrival := s.lineEngine.clock,
      decision := s.classifier.decide { station := 5, relayed := relayOf f.kind, payload := f.payload } }

theorem test_witness_AValidAnswerIsDecided_DirectEvent :
    ∃ (s : State) (x : Exchange) (f : AnswerFrame) (a : Answer), s.lineScheduler.exchange = some x ∧
      (x.phase = .receiving ∨ x.phase = .windowOpen) ∧ f.Sized ∧ BeginsWith f (cleanRun f.octets) ∧ ValidAnswer s x.kind x.station f a :=
  ⟨running (.poll (.any 23) .noAck) .receiving, exchangeOf (.poll (.any 23) .noAck) .receiving, answerFrame 11 [] [4], eventOf (running (.poll (.any 23) .noAck) .receiving) (answerFrame 11 [] [4]) none, rfl, .inl rfl, by decide,
    beginsWith_cleanRun _, by decide, .inr (.inr (.inr (.inr (.inl ⟨23, .noAck, none, rfl, by decide, by decide, .inl ⟨by decide, rfl⟩, rfl⟩))))⟩

theorem test_witness_AValidAnswerIsDecided_RelayedEvent :
    ∃ (s : State) (x : Exchange) (f : AnswerFrame) (a : Answer), s.lineScheduler.exchange = some x ∧
      (x.phase = .receiving ∨ x.phase = .windowOpen) ∧ f.Sized ∧ BeginsWith f (cleanRun f.octets) ∧ ValidAnswer s x.kind x.station f a :=
  ⟨running (.poll (.any 23) .noAck) .receiving, exchangeOf (.poll (.any 23) .noAck) .receiving, answerFrame 43 [9, 3] [4], eventOf (running (.poll (.any 23) .noAck) .receiving) (answerFrame 43 [9, 3] [4]) (some (9, 3)), rfl, .inl rfl, by decide,
    beginsWith_cleanRun _, by decide, .inr (.inr (.inr (.inr (.inl ⟨23, .noAck, (some (9, 3)), rfl, by decide, by decide, .inr ⟨9, 3, by decide, rfl, by decide, by decide, rfl⟩, rfl⟩))))⟩

theorem test_witness_AFaultyAnswerIsDecided_undefinedKind :
    ∃ (s : State) (x : Exchange) (f : AnswerFrame), s.lineScheduler.exchange = some x ∧ x.phase = .receiving ∧ f.Sized ∧
      BeginsWith f (cleanRun f.octets) ∧ Breach x.kind x.station f :=
  ⟨running (.request 3) .receiving, exchangeOf (.request 3) .receiving, answerFrame 7 [] [], rfl, rfl, by decide, beginsWith_cleanRun _,
    .inl (by decide)⟩

theorem test_witness_AFaultyAnswerIsDecided_wrongKind :
    ∃ (s : State) (x : Exchange) (f : AnswerFrame), s.lineScheduler.exchange = some x ∧ x.phase = .receiving ∧ f.Sized ∧
      BeginsWith f (cleanRun f.octets) ∧ Breach x.kind x.station f :=
  ⟨running (.request 3) .receiving, exchangeOf (.request 3) .receiving, answerFrame 12 [] [], rfl, rfl, by decide, beginsWith_cleanRun _,
    .inr (.inl (show ¬ (kindCode 12 = 8 ∨ kindCode 12 = 9) by decide))⟩

theorem test_witness_AFaultyAnswerIsDecided_wrongStation :
    ∃ (s : State) (x : Exchange) (f : AnswerFrame), s.lineScheduler.exchange = some x ∧ x.phase = .receiving ∧ f.Sized ∧
      BeginsWith f (cleanRun f.octets) ∧ Breach x.kind x.station f :=
  ⟨running (.request 3) .receiving, exchangeOf (.request 3) .receiving, { answerFrame 8 [] [] with address := 6 }, rfl, rfl, by decide, beginsWith_cleanRun _,
    .inr (.inr (.inl (by decide)))⟩

theorem test_witness_AFaultyAnswerIsDecided_wrongTag :
    ∃ (s : State) (x : Exchange) (f : AnswerFrame), s.lineScheduler.exchange = some x ∧ x.phase = .receiving ∧ f.Sized ∧
      BeginsWith f (cleanRun f.octets) ∧ Breach x.kind x.station f :=
  ⟨running (.cancel 4) .receiving, exchangeOf (.cancel 4) .receiving, answerFrame 13 [] [], rfl, rfl, by decide, beginsWith_cleanRun _,
    .inr (.inr (.inr (.inl (show lowBits 3 ≠ 4 by decide))))⟩

theorem test_witness_AFaultyAnswerIsDecided_lengthNotZero :
    ∃ (s : State) (x : Exchange) (f : AnswerFrame), s.lineScheduler.exchange = some x ∧ x.phase = .receiving ∧ f.Sized ∧
      BeginsWith f (cleanRun f.octets) ∧ Breach x.kind x.station f :=
  ⟨running (.request 3) .receiving, exchangeOf (.request 3) .receiving, answerFrame 8 [] [0], rfl, rfl, by decide, beginsWith_cleanRun _,
    .inr (.inr (.inr (.inr (.inl ⟨by decide, by decide, by decide⟩))))⟩

theorem test_witness_AFaultyAnswerIsDecided_badHopCount :
    ∃ (s : State) (x : Exchange) (f : AnswerFrame), s.lineScheduler.exchange = some x ∧ x.phase = .receiving ∧ f.Sized ∧
      BeginsWith f (cleanRun f.octets) ∧ Breach x.kind x.station f :=
  ⟨running (.poll (.any 0) .noAck) .receiving, exchangeOf (.poll (.any 0) .noAck) .receiving, answerFrame 43 [9, 4] [], rfl, rfl, by decide, beginsWith_cleanRun _,
    .inr (.inr (.inr (.inr (.inr (.inl ⟨by decide, by decide, 9, 4, rfl, by decide⟩)))))⟩

theorem test_witness_AFaultyAnswerIsDecided_ackedReply :
    ∃ (s : State) (x : Exchange) (f : AnswerFrame), s.lineScheduler.exchange = some x ∧ x.phase = .receiving ∧ f.Sized ∧
      BeginsWith f (cleanRun f.octets) ∧ Breach x.kind x.station f :=
  ⟨running (.poll .replyOnly (.reply 3)) .receiving, exchangeOf (.poll .replyOnly (.reply 3)) .receiving, answerFrame 10 [0] [], rfl, rfl, by decide, beginsWith_cleanRun _,
    .inr (.inr (.inr (.inr (.inr (.inr (.inl ⟨.replyOnly, 3, rfl, by decide, by decide⟩))))))⟩

theorem test_witness_AFaultyAnswerIsDecided_ackedEvent :
    ∃ (s : State) (x : Exchange) (f : AnswerFrame), s.lineScheduler.exchange = some x ∧ x.phase = .receiving ∧ f.Sized ∧
      BeginsWith f (cleanRun f.octets) ∧ Breach x.kind x.station f :=
  ⟨running (.poll (.any 0) .event) .receiving, exchangeOf (.poll (.any 0) .event) .receiving, answerFrame 11 [] [], rfl, rfl, by decide, beginsWith_cleanRun _,
    .inr (.inr (.inr (.inr (.inr (.inr (.inr (⟨.any 0, rfl, by decide⟩)))))))⟩

theorem test_witness_AFaultyAnswerIsDecided_noFrame :
    ∃ (s : State) (x : Exchange) (run : List RxOctet), s.lineScheduler.exchange = some x ∧ x.phase = .windowOpen ∧
      ∀ f : AnswerFrame, f.Sized → ¬ BeginsWith f run :=
  ⟨running (.request 3) .windowOpen, exchangeOf (.request 3) .windowOpen, cleanRun [0xA5], rfl, rfl, fun f _ h => by
    obtain ⟨front, rest, hr, hf, _⟩ := h
    have h1 : front.length ≤ 1 := by
      have := congrArg List.length hr
      simp [cleanRun] at this
      omega
    have h2 := congrArg List.length hf
    simp [AnswerFrame.octets, AnswerFrame.covered, checkOctets] at h2
    omega⟩

/-! ## The Line Scheduler's choice -/

theorem test_witness_CancelsAreChosenFirst :
    (∃ s : State, s.lineEngine.state ≠ .running) ∧
    (∃ s : State, s.lineEngine.state = .running ∧ s.lineScheduler.exchange ≠ none) ∧
    (∃ (s : State) (n : SlotNo) (rest : List SlotNo) (a : Address), s.lineEngine.state = .running ∧
      s.lineScheduler.exchange = none ∧ s.lineEngine.gapPassed = true ∧ s.cancelList = n :: rest ∧ n ∉ rest ∧
      (s.slot n).station.toNat = a.val) ∧
    (∃ s : State, s.lineEngine.state = .running ∧ s.lineScheduler.exchange = none ∧ s.lineEngine.gapPassed = true ∧
      s.cancelList = [] ∧ (∀ n, ¬ Eligible s n) ∧ ∀ a, a ≠ 0 → ¬ InRing (s.station a)) :=
  ⟨⟨ready, by decide +kernel⟩,
   ⟨running (.request 3) .sending, by decide +kernel⟩,
   ⟨(slot 3 (slotOf .cancelling) (lineAt .running ready)).onCancelList fun _ => [3], 3, [], 5, by decide +kernel⟩,
   ⟨lineAt .running ready, rfl, rfl, rfl, rfl, 
    fun n h => (by decide +kernel : ∀ n, ((lineAt .running ready).slot n).state ≠ .queued) n h.1, by decide +kernel⟩⟩

/-- The line RUNNING with slot 3 of station 5, ACTIVE and held off the ring by its poll mode, queued at a level. -/
def oneRequest (l : Level) (burst : Nat) (mode : PollMode) : State :=
  (queued l 3 (lineAt .running (station 5 { stationOf .active with pollMode := mode } ready))).onScheduler fun x =>
    { x with burst := burst }

theorem oneRequest_eligible (l : Level) (burst : Nat) (mode : PollMode) : Eligible (oneRequest l burst mode) 3 :=
  ⟨rfl, .inr rfl, rfl, (by decide : 0 < 2), [], [], rfl, by simp⟩

theorem test_witness_RequestsAreChosenByEligibility_inBurst :
    ∃ (s : State) (n : SlotNo) (level : Level) (before after : List Place) (a : Address) (burst : Nat),
    s.lineEngine.state = .running ∧ s.lineScheduler.exchange = none ∧ s.lineEngine.gapPassed = true ∧
    s.cancelList = [] ∧ (queuedSlots s.dispatchQueue).Nodup ∧
    s.dispatchQueue = before ++ ⟨level, some n⟩ :: after ∧ Eligible s n ∧ (s.slot n).station.toNat = a.val ∧
    (∀ p ∈ before, p.level = level → ∀ m, p.slot = some m → ¬ Eligible s m) ∧
    (level = .normal → ∀ p ∈ s.dispatchQueue, p.level = .urgent → ∀ m, p.slot = some m → ¬ Eligible s m) ∧
    (s.lineScheduler.burst < s.lineScheduler.burstLimit ∧ burst = s.lineScheduler.burst + 1) :=
  ⟨oneRequest .normal 3 .repliesOnly, 3, .normal, [], [], 5, 4, rfl, rfl, rfl, rfl, by decide +kernel, rfl,
   oneRequest_eligible _ _ _, by decide +kernel, by simp, fun _ p hp hl => (by
    rw [show (oneRequest .normal 3 .repliesOnly).dispatchQueue = [⟨.normal, some 3⟩] from rfl,
      List.mem_singleton] at hp
    subst hp
    exact absurd hl (by decide)),
   by decide +kernel⟩

theorem test_witness_RequestsAreChosenByEligibility_emptyRing :
    ∃ (s : State) (n : SlotNo) (level : Level) (before after : List Place) (a : Address) (burst : Nat),
    s.lineEngine.state = .running ∧ s.lineScheduler.exchange = none ∧ s.lineEngine.gapPassed = true ∧
    s.cancelList = [] ∧ (queuedSlots s.dispatchQueue).Nodup ∧
    s.dispatchQueue = before ++ ⟨level, some n⟩ :: after ∧ Eligible s n ∧ (s.slot n).station.toNat = a.val ∧
    (∀ p ∈ before, p.level = level → ∀ m, p.slot = some m → ¬ Eligible s m) ∧
    (level = .normal → ∀ p ∈ s.dispatchQueue, p.level = .urgent → ∀ m, p.slot = some m → ¬ Eligible s m) ∧
    (s.lineScheduler.burstLimit ≤ s.lineScheduler.burst ∧ (∀ b, b ≠ 0 → ¬ InRing (s.station b)) ∧ burst = 0) :=
  ⟨oneRequest .urgent 4 .off, 3, .urgent, [], [], 5, 0, rfl, rfl, rfl, rfl, by decide +kernel, rfl,
   oneRequest_eligible _ _ _, by decide +kernel, by simp, by simp, by decide +kernel⟩

theorem test_witness_PollsGoRoundTheRing_burstAtLimit :
    ∃ (s : State) (a : Address), s.lineEngine.state = .running ∧ s.lineScheduler.exchange = none ∧
    s.lineEngine.gapPassed = true ∧ s.cancelList = [] ∧
    (∀ n, Eligible s n → s.lineScheduler.burstLimit ≤ s.lineScheduler.burst) ∧ a ≠ 0 ∧ InRing (s.station a) ∧
    (∀ b, b ≠ 0 → InRing (s.station b) →
      pollDistance s.stationTable.rotation a ≤ pollDistance s.stationTable.rotation b) ∧ ∃ n, Eligible s n :=
  ⟨oneRequest .normal 4 .repliesOnly, 5, rfl, rfl, rfl, rfl, fun _ _ => by decide, by decide, by decide +kernel,
   by decide +kernel, 3, oneRequest_eligible _ _ _⟩

theorem test_witness_PollsGoRoundTheRing_recordReserved :
    ∃ (s : State) (a : Address), s.lineEngine.state = .running ∧ s.lineScheduler.exchange = none ∧
    s.lineEngine.gapPassed = true ∧ s.cancelList = [] ∧
    (∀ n, Eligible s n → s.lineScheduler.burstLimit ≤ s.lineScheduler.burst) ∧ a ≠ 0 ∧ InRing (s.station a) ∧
    (∀ b, b ≠ 0 → InRing (s.station b) →
      pollDistance s.stationTable.rotation a ≤ pollDistance s.stationTable.rotation b) ∧
    (s.station a).pollMode = .repliesAndEvents ∧ s.eventPool.free ≠ [] :=
  ⟨oneRequest .normal 4 .repliesAndEvents, 5, rfl, rfl, rfl, rfl, fun _ _ => by decide, by decide, by decide +kernel,
   by decide +kernel, by decide +kernel⟩

/-! ## The outcome of an exchange -/

theorem test_witness_AcceptIsTaken :
    ∃ (s : State) (x : Exchange) (n : SlotNo), Decided s x (.answer .accept) ∧ x.kind = .request n ∧
      (s.slot n).station.toNat = x.station.val ∧ s.lineEngine.state ≠ .stopping :=
  ⟨runningSlot .sending (.request 3) (.decided (.answer .accept)), exchangeOf (.request 3) (.decided (.answer .accept)), 3, by decide +kernel⟩

theorem test_witness_AFailedRequestIsTaken :
    (∃ (s : State) (x : Exchange) (n : SlotNo) (o : ExchangeOutcome), Decided s x o ∧ x.kind = .request n ∧ (s.slot n).state = .sending ∧
      (s.slot n).station.toNat = x.station.val ∧ s.lineEngine.state ≠ .stopping ∧ o = .answer (.refuse 1)) ∧
    (∃ (s : State) (x : Exchange) (n : SlotNo) (o : ExchangeOutcome), Decided s x o ∧ x.kind = .request n ∧ (s.slot n).state = .sending ∧
      (s.slot n).station.toNat = x.station.val ∧ s.lineEngine.state ≠ .stopping ∧ o = .answer (.refuse 0)) ∧
    (∃ (s : State) (x : Exchange) (n : SlotNo) (o : ExchangeOutcome), Decided s x o ∧ x.kind = .request n ∧ (s.slot n).state = .sending ∧
      (s.slot n).station.toNat = x.station.val ∧ s.lineEngine.state ≠ .stopping ∧ o = .echoFault) ∧
    (∃ (s : State) (x : Exchange) (n : SlotNo) (o : ExchangeOutcome), Decided s x o ∧ x.kind = .request n ∧ (s.slot n).state = .sending ∧
      (s.slot n).station.toNat = x.station.val ∧ s.lineEngine.state ≠ .stopping ∧ o = .noAnswer ∧
      (s.station x.station).noAnswer + 1 < s.stationTable.noAnswerLimit) ∧
    (∃ (s : State) (x : Exchange) (n : SlotNo) (o : ExchangeOutcome), Decided s x o ∧ x.kind = .request n ∧ (s.slot n).state = .sending ∧
      (s.slot n).station.toNat = x.station.val ∧ s.lineEngine.state ≠ .stopping ∧ o = .checkError ∧
      (s.station x.station).noAnswer + 1 < s.stationTable.noAnswerLimit) ∧
    (∃ (s : State) (x : Exchange) (n : SlotNo) (o : ExchangeOutcome), Decided s x o ∧ x.kind = .request n ∧ (s.slot n).state = .sending ∧
      (s.slot n).station.toNat = x.station.val ∧ s.lineEngine.state ≠ .stopping ∧ o = .protocolError ∧
      (s.station x.station).noAnswer + 1 < s.stationTable.noAnswerLimit) :=
  ⟨⟨runningSlot .sending (.request 3) (.decided (.answer (.refuse 1))), exchangeOf (.request 3) (.decided (.answer (.refuse 1))), 3, .answer (.refuse 1), by decide +kernel⟩,
   ⟨runningSlot .sending (.request 3) (.decided (.answer (.refuse 0))), exchangeOf (.request 3) (.decided (.answer (.refuse 0))), 3, .answer (.refuse 0), by decide +kernel⟩,
   ⟨runningSlot .sending (.request 3) (.decided .echoFault), exchangeOf (.request 3) (.decided .echoFault), 3, .echoFault, by decide +kernel⟩,
   ⟨runningSlot .sending (.request 3) (.decided .noAnswer), exchangeOf (.request 3) (.decided .noAnswer), 3, .noAnswer, by decide +kernel⟩,
   ⟨runningSlot .sending (.request 3) (.decided .checkError), exchangeOf (.request 3) (.decided .checkError), 3, .checkError, by decide +kernel⟩,
   ⟨runningSlot .sending (.request 3) (.decided .protocolError), exchangeOf (.request 3) (.decided .protocolError), 3, .protocolError, by decide +kernel⟩⟩

theorem test_witness_ACancelsOutcomeIsTaken :
    (∃ (s : State) (x : Exchange) (n : SlotNo) (o : ExchangeOutcome), Decided s x o ∧ x.kind = .cancel n ∧ (s.slot n).state = .cancelling ∧ n ∉ s.cancelList ∧
      n ∉ queuedSlots s.dispatchQueue ∧ (s.slot n).station.toNat = x.station.val ∧ s.lineEngine.state ≠ .stopping ∧ o = .answer .cancelled) ∧
    (∃ (s : State) (x : Exchange) (n : SlotNo) (o : ExchangeOutcome), Decided s x o ∧ x.kind = .cancel n ∧ (s.slot n).state = .cancelling ∧ n ∉ s.cancelList ∧
      n ∉ queuedSlots s.dispatchQueue ∧ (s.slot n).station.toNat = x.station.val ∧ s.lineEngine.state ≠ .stopping ∧ o = .echoFault) ∧
    (∃ (s : State) (x : Exchange) (n : SlotNo) (o : ExchangeOutcome), Decided s x o ∧ x.kind = .cancel n ∧ (s.slot n).state = .cancelling ∧ n ∉ s.cancelList ∧
      n ∉ queuedSlots s.dispatchQueue ∧ (s.slot n).station.toNat = x.station.val ∧ s.lineEngine.state ≠ .stopping ∧ o = .noAnswer ∧
      (s.station x.station).noAnswer + 1 < s.stationTable.noAnswerLimit ∧ (s.slot n).cancelAttempts + 1 < 3) ∧
    (∃ (s : State) (x : Exchange) (n : SlotNo) (o : ExchangeOutcome), Decided s x o ∧ x.kind = .cancel n ∧ (s.slot n).state = .cancelling ∧ n ∉ s.cancelList ∧
      n ∉ queuedSlots s.dispatchQueue ∧ (s.slot n).station.toNat = x.station.val ∧ s.lineEngine.state ≠ .stopping ∧ o = .checkError ∧
      (s.station x.station).noAnswer + 1 < s.stationTable.noAnswerLimit ∧ (s.slot n).cancelAttempts + 1 = 3) :=
  ⟨⟨runningSlot .cancelling (.cancel 3) (.decided (.answer .cancelled)), exchangeOf (.cancel 3) (.decided (.answer .cancelled)), 3, .answer .cancelled, by decide +kernel⟩,
   ⟨runningSlot .cancelling (.cancel 3) (.decided .echoFault), exchangeOf (.cancel 3) (.decided .echoFault), 3, .echoFault, by decide +kernel⟩,
   ⟨runningSlot .cancelling (.cancel 3) (.decided .noAnswer), exchangeOf (.cancel 3) (.decided .noAnswer), 3, .noAnswer, by decide +kernel⟩,
   ⟨slot 3 { slotOf .cancelling with cancelAttempts := 2 } (running (.cancel 3) (.decided .checkError)), exchangeOf (.cancel 3) (.decided .checkError), 3, .checkError, by decide +kernel⟩⟩

theorem test_witness_AReplyIsMatchedOrStray :
    (∃ (s : State) (x : Exchange) (tag : SlotNo) (r : Bool) (octet : Octet) (payload : List Octet), Decided s x (.answer (.reply tag r octet payload)) ∧
      (s.station x.station).state ≠ .disabled ∧ s.lineEngine.state ≠ .stopping ∧
      ((s.slot tag).cancelInFlight = true → x.kind = .cancel tag) ∧
      (tag ∈ queuedSlots s.dispatchQueue → (s.slot tag).state = .queued) ∧ x.kind = .poll (.any 0) .noAck ∧
      (s.slot tag).station.toNat = x.station.val ∧ (s.slot tag).state = .waiting) ∧
    (∃ (s : State) (x : Exchange) (tag : SlotNo) (r : Bool) (octet : Octet) (payload : List Octet), Decided s x (.answer (.reply tag r octet payload)) ∧
      (s.station x.station).state ≠ .disabled ∧ s.lineEngine.state ≠ .stopping ∧
      ((s.slot tag).cancelInFlight = true → x.kind = .cancel tag) ∧
      (tag ∈ queuedSlots s.dispatchQueue → (s.slot tag).state = .queued) ∧ x.kind = .poll .replyOnly .noAck ∧
      (s.slot tag).station.toNat = x.station.val ∧ (s.slot tag).state = .cancelling) ∧
    (∃ (s : State) (x : Exchange) (tag : SlotNo) (r : Bool) (octet : Octet) (payload : List Octet), Decided s x (.answer (.reply tag r octet payload)) ∧
      (s.station x.station).state ≠ .disabled ∧ s.lineEngine.state ≠ .stopping ∧
      ((s.slot tag).cancelInFlight = true → x.kind = .cancel tag) ∧
      (tag ∈ queuedSlots s.dispatchQueue → (s.slot tag).state = .queued) ∧ x.kind = .poll .replyOnly .noAck ∧ (s.slot tag).state = .done) ∧
    (∃ (s : State) (x : Exchange) (tag : SlotNo) (r : Bool) (octet : Octet) (payload : List Octet), Decided s x (.answer (.reply tag r octet payload)) ∧
      (s.station x.station).state ≠ .disabled ∧ s.lineEngine.state ≠ .stopping ∧
      ((s.slot tag).cancelInFlight = true → x.kind = .cancel tag) ∧
      (tag ∈ queuedSlots s.dispatchQueue → (s.slot tag).state = .queued) ∧ x.kind = .cancel tag ∧
      (s.slot tag).state = .cancelling ∧ (s.slot tag).station.toNat = x.station.val) :=
  ⟨⟨runningSlot .waiting (.poll (.any 0) .noAck) (.decided (.answer (.reply 3 true 7 [1]))), exchangeOf (.poll (.any 0) .noAck) (.decided (.answer (.reply 3 true 7 [1]))), 3, true, 7, [1], by decide +kernel⟩,
   ⟨runningSlot .cancelling (.poll .replyOnly .noAck) (.decided (.answer (.reply 3 true 7 [1]))), exchangeOf (.poll .replyOnly .noAck) (.decided (.answer (.reply 3 true 7 [1]))), 3, true, 7, [1], by decide +kernel⟩,
   ⟨runningSlot .done (.poll .replyOnly .noAck) (.decided (.answer (.reply 3 true 7 [1]))), exchangeOf (.poll .replyOnly .noAck) (.decided (.answer (.reply 3 true 7 [1]))), 3, true, 7, [1], by decide +kernel⟩,
   ⟨runningSlot .cancelling (.cancel 3) (.decided (.answer (.reply 3 true 7 [1]))), exchangeOf (.cancel 3) (.decided (.answer (.reply 3 true 7 [1]))), 3, true, 7, [1], by decide +kernel⟩⟩

/-- An EVENT for queue A with an alert. -/
def alertEvent : EventAnswer :=
  { repeatFlag := false, relay := none, payload := [4], arrival := 0,
    decision := { action := .queueA, alert := true, chain := 0 } }

theorem test_witness_APollsOutcomeIsTaken :
    (∃ (s : State) (x : Exchange) (k : PollKind) (ack : Ack) (o : ExchangeOutcome), Decided s x o ∧ x.kind = .poll k ack ∧ s.lineEngine.state ≠ .stopping ∧ o = .answer .idle) ∧
    (∃ (s : State) (x : Exchange) (k : PollKind) (ack : Ack) (o : ExchangeOutcome), Decided s x o ∧ x.kind = .poll k ack ∧ s.lineEngine.state ≠ .stopping ∧ k = .any 0 ∧ o = .answer (.event alertEvent) ∧
      (s.station x.station).state ≠ .disabled) ∧
    (∃ (s : State) (x : Exchange) (k : PollKind) (ack : Ack) (o : ExchangeOutcome), Decided s x o ∧ x.kind = .poll k ack ∧ s.lineEngine.state ≠ .stopping ∧ o = .echoFault) ∧
    (∃ (s : State) (x : Exchange) (k : PollKind) (ack : Ack) (o : ExchangeOutcome), Decided s x o ∧ x.kind = .poll k ack ∧ s.lineEngine.state ≠ .stopping ∧ o = .noAnswer ∧
      (s.station x.station).noAnswer + 1 < s.stationTable.noAnswerLimit) ∧
    (∃ (s : State) (x : Exchange) (k : PollKind) (ack : Ack) (o : ExchangeOutcome), Decided s x o ∧ x.kind = .poll k ack ∧ s.lineEngine.state ≠ .stopping ∧ (s.station x.station).state = .disabled) :=
  ⟨⟨running (.poll (.any 0) .noAck) (.decided (.answer .idle)), exchangeOf (.poll (.any 0) .noAck) (.decided (.answer .idle)), .any 0, .noAck, .answer .idle, by decide +kernel⟩,
   ⟨running (.poll (.any 0) .noAck) (.decided (.answer (.event alertEvent))), exchangeOf (.poll (.any 0) .noAck) (.decided (.answer (.event alertEvent))), .any 0, .noAck, .answer (.event alertEvent), by decide +kernel⟩,
   ⟨running (.poll (.any 0) .noAck) (.decided .echoFault), exchangeOf (.poll (.any 0) .noAck) (.decided .echoFault), .any 0, .noAck, .echoFault, by decide +kernel⟩,
   ⟨running (.poll (.any 0) .noAck) (.decided .noAnswer), exchangeOf (.poll (.any 0) .noAck) (.decided .noAnswer), .any 0, .noAck, .noAnswer, by decide +kernel⟩,
   ⟨flight (exchangeOf (.poll (.any 0) .noAck) (.decided .noAnswer)) (lineAt .running ready), exchangeOf (.poll (.any 0) .noAck) (.decided .noAnswer), .any 0, .noAck, .noAnswer, by decide +kernel⟩⟩

/-- A lost answer of station 5, whose no-answer count stands at 3, with slots 3 and 7 of it live. -/
def losing : State :=
  slot 7 (slotOf .waiting) (station 5 { stationOf .active with noAnswer := 3, outstanding := 1 }
    (runningSlot .sending (.request 3) (.decided .noAnswer)))

theorem test_witness_ALostStationsSlotsAreCompleted :
    ∃ (s t0 : State) (x : Exchange) (o : ExchangeOutcome) (limit : Nat), (Decided s x o ∧ o = .noAnswer ∧
      s.lineEngine.state ≠ .stopping ∧ (s.station x.station).state ≠ .disabled ∧
      s.stationTable.noAnswerLimit ≤ (s.station x.station).noAnswer + 1 ∧
      (s.station x.station).noAnswer + 1 < limit) ∧
      exec .outcomeTaken { s with stationTable := { s.stationTable with noAnswerLimit := limit } } = .next t0 :=
  ⟨losing, _, exchangeOf (.request 3) (.decided .noAnswer), .noAnswer, 5, by decide +kernel, rfl⟩

theorem test_witness_StoppingEndsWithTheOutcome :
    (∃ (s t : State) (x : Exchange) (o : ExchangeOutcome), (Decided s x o ∧ s.lineEngine.state = .stopping) ∧
      exec .outcomeTaken { s with lineEngine := { s.lineEngine with state := .running } } = .next t) ∧
    (∃ s : State, ∀ x o, ¬ Decided s x o) :=
  ⟨⟨lineAt .stopping (running (.request 3) (.decided .noAnswer)), _, exchangeOf (.request 3) (.decided .noAnswer), .noAnswer,
    by decide +kernel, rfl⟩,
   ⟨ready, fun x o h => by cases h.1⟩⟩

theorem test_witness_LineIsLatchedAtItsEntriesAlone :
    (∃ s t : State, exec (.runWrite0 0) s = .next t ∧ LineConsistent s ∧ t.lineEngine.state = .off ∧
      s.lineEngine.state = .starting) ∧
    (∃ s t : State, exec .pinReset s = .next t ∧ LineConsistent s) ∧
    (∃ s t : State, exec (.causeWrite 32) s = .next t ∧ LineConsistent s ∧ s.completionUnit.causes.line = true) :=
  ⟨⟨lineAt .starting ready, _, rfl, by decide +kernel⟩,
   ⟨ready, _, rfl, by decide +kernel⟩,
   ⟨ready.onCompletion CompletionUnit.latchLine, _, rfl, by decide +kernel⟩⟩

/-! ## The Classifier and the invariants -/

/-- A match table whose entry 0 is enabled and passes every event. -/
def passAll : Classifier :=
  { table := MatchEntry.initialTable.set 0 { MatchEntry.zero with enabled := true }, enable := true,
    defaultAction := .queueB }

theorem test_witness_TheFirstTrueChainDecides :
    passAll.enable = true ∧ ({ passAll with enable := false } : Classifier).enable = false ∧
    passAll.decide { station := 5, relayed := false, payload := [] } =
      { action := .queueA, alert := false, chain := 0 } := by decide +kernel

theorem test_witness_StepsKeepLineRegistersAndCoalescing :
    ∃ s t : State, step s = .next t ∧ LineConsistent s ∧ RegistersLegal s ∧ CoalescingSound s.completionUnit :=
  ⟨{ ready with pending := [.runWrite1 1] }, _, rfl, by decide +kernel⟩

theorem test_witness_StepsKeepThePoolPartitioned :
    ∃ s t : State, step s = .next t ∧ PoolPartition s :=
  ⟨{ running (.poll .replyOnly .noAck) .sending with pending := [.frameCompletelySent] }, _, rfl, by decide +kernel⟩

/-- Slot 3 WAITING at station 5, as POST, a REQUEST and its ACCEPT leave it. -/
def waiting : State :=
  slot 3 { slotOf .waiting with attempts := 1 } (lineAt .running (station 5 { stationOf .active with outstanding := 1 } ready))

theorem test_witness_StepsKeepSlotsAndListsInAgreement :
    ∃ s t : State, step s = .next t ∧ SlotListsAgree s :=
  ⟨{ arg 3 waiting with pending := [.cancel] }, _, rfl, by decide +kernel⟩

set_option synthInstance.maxSize 2000 in
theorem test_witness_StepsKeepRecordsSound :
    ∃ s t : State, step s = .next t ∧ SlotListsAgree s ∧ RecordsSound s :=
  ⟨{ arg 3 waiting with pending := [.cancel] }, _, rfl, by decide +kernel⟩

theorem test_witness_StepsKeepStationsAndSlotsInAgreement :
    ∃ s t : State, step s = .next t ∧ SlotListsAgree s ∧ StationsAgree s :=
  ⟨{ arg 3 waiting with pending := [.cancel] }, _, rfl, by decide +kernel⟩

end Sys2Proof.Tests
end

-- ==== The agreement of slots and lists, slot by slot ====
section
/-! SUPPORT. The agreement of the slots with their lists (R23, R52, R98, R152), said of one slot at a time by counting:
an operation that moves one slot is then judged at that slot alone, every other slot standing as before. The slot of
the REQUEST and the slot of the CANCEL in flight are parameters, since the taking of an outcome clears the exchange
before it moves the slot (R65, R66). -/

namespace Sys2Proof.Machine

/-! ## Counting in the lists -/

@[simp] theorem heldPlaces_cons_none (l : Level) (q : List Place) :
    heldPlaces (⟨l, none⟩ :: q) = heldPlaces q + 1 := rfl

@[simp] theorem heldPlaces_cons_some (l : Level) (n : SlotNo) (q : List Place) :
    heldPlaces (⟨l, some n⟩ :: q) = heldPlaces q := rfl

@[simp] theorem fillHeldPlace_cons_none (n : SlotNo) (l : Level) (q : List Place) :
    fillHeldPlace n (⟨l, none⟩ :: q) = ⟨l, some n⟩ :: fillHeldPlace n q := rfl

@[simp] theorem fillHeldPlace_cons_some (n m : SlotNo) (l : Level) (q : List Place) :
    fillHeldPlace n (⟨l, some m⟩ :: q) = ⟨l, some m⟩ :: fillHeldPlace n q := rfl

/-- A slot that fills the held place is queued once for each place held (R52). -/
theorem count_queuedSlots_fillHeldPlace (m n : SlotNo) (q : List Place) :
    (queuedSlots (fillHeldPlace n q)).count m =
      (queuedSlots q).count m + if m = n then heldPlaces q else 0 := by
  induction q with
  | nil => by_cases h : m = n <;> simp [fillHeldPlace, heldPlaces, h]
  | cons p q ih =>
    obtain ⟨l, _ | k⟩ := p
    · by_cases h : m = n
      · subst h; simp [ih]; omega
      · simp [ih, h, Ne.symm h]
    · simp [ih, List.count_cons]; omega

@[simp] theorem heldPlaces_fillHeldPlace (n : SlotNo) (q : List Place) : heldPlaces (fillHeldPlace n q) = 0 := by
  induction q with
  | nil => rfl
  | cons p q ih => obtain ⟨l, _ | k⟩ := p <;> simpa using ih

/-- A chosen slot leaves a held place for each place it had (R52). -/
theorem heldPlaces_holdPlace (n : SlotNo) (q : List Place) :
    heldPlaces (holdPlace n q) = heldPlaces q + (queuedSlots q).count n := by
  induction q with
  | nil => rfl
  | cons p q ih =>
    obtain ⟨l, _ | m⟩ := p
    · have e : holdPlace n (⟨l, none⟩ :: q) = ⟨l, none⟩ :: holdPlace n q := rfl
      simp [e, ih]; omega
    · by_cases h : m = n
      · subst h
        have e : holdPlace m (⟨l, some m⟩ :: q) = ⟨l, none⟩ :: holdPlace m q := by simp [holdPlace]
        simp [e, ih]; omega
      · have e : holdPlace n (⟨l, some m⟩ :: q) = ⟨l, some m⟩ :: holdPlace n q := by simp [holdPlace, h]
        simp [e, ih, h]

/-- A list holds each slot of a kind once, and no other, when it counts 1 for those and 0 for the others. -/
theorem nodup_and_mem_iff {l : List SlotNo} {p : SlotNo → Prop} [DecidablePred p] :
    (l.Nodup ∧ ∀ n, n ∈ l ↔ p n) ↔ ∀ n, l.count n = if p n then 1 else 0 := by
  constructor
  · rintro ⟨hd, hm⟩ n
    by_cases h : p n
    · rw [if_pos h]; exact List.count_eq_one_of_mem hd ((hm n).2 h)
    · rw [if_neg h]; exact List.count_eq_zero.2 fun hn => h ((hm n).1 hn)
  · intro h
    refine ⟨List.nodup_iff_count_le_one.2 fun n => ?_, fun n => ?_⟩
    · rw [h n]; split <;> omega
    · rw [← List.count_pos_iff, h n]; split <;> simp_all

/-! ## One slot, and all of them -/

/-- Slot `n` stands in exactly the list its state calls for, once; it is SENDING exactly as the slot `r` of a REQUEST
in flight, and its cancel is in flight, with the slot CANCELLING, exactly as the slot `c` of a CANCEL in flight. -/
structure SlotAgrees (r c : Option SlotNo) (s : State) (n : SlotNo) : Prop where
  queue      : (queuedSlots s.dispatchQueue).count n = if (s.slot n).state = .queued then 1 else 0
  cancelList : s.cancelList.count n =
    if (s.slot n).state = .cancelling ∧ (s.slot n).cancelInFlight = false then 1 else 0
  completion : s.completionUnit.queue.count n = if (s.slot n).state = .done then 1 else 0
  sending    : (s.slot n).state = .sending ↔ r = some n
  inFlight   : (s.slot n).cancelInFlight = true ↔ c = some n
  cancelling : (s.slot n).cancelInFlight = true → (s.slot n).state = .cancelling

/-- Every slot agrees, and one place is held exactly for the slot `r` of a REQUEST in flight. -/
structure ListsAgreeFor (r c : Option SlotNo) (s : State) : Prop where
  slots : ∀ n, SlotAgrees r c s n
  held  : heldPlaces s.dispatchQueue = r.toList.length

/-- The agreement of the statements is that of every slot, with the slots of the exchange in flight. -/
theorem slotListsAgree_iff {s : State} :
    SlotListsAgree s ↔ ListsAgreeFor s.requestInFlight s.cancelInFlight s := by
  have regroup : SlotListsAgree s ↔
      ((queuedSlots s.dispatchQueue).Nodup ∧ ∀ n, n ∈ queuedSlots s.dispatchQueue ↔ (s.slot n).state = .queued) ∧
      (s.cancelList.Nodup ∧
        ∀ n, n ∈ s.cancelList ↔ (s.slot n).state = .cancelling ∧ (s.slot n).cancelInFlight = false) ∧
      (s.completionUnit.queue.Nodup ∧ ∀ n, n ∈ s.completionUnit.queue ↔ (s.slot n).state = .done) ∧
      (∀ n, (s.slot n).state = .sending ↔ s.requestInFlight = some n) ∧
      (∀ n, (s.slot n).cancelInFlight = true ↔ s.cancelInFlight = some n) ∧
      (∀ n, (s.slot n).cancelInFlight = true → (s.slot n).state = .cancelling) ∧
      heldPlaces s.dispatchQueue = s.requestInFlight.toList.length := by
    simp only [SlotListsAgree, and_assoc]
  rw [regroup]
  simp only [nodup_and_mem_iff]
  constructor
  · rintro ⟨hq, hc, hd, hs, hf, hx, hh⟩
    exact ⟨fun n => ⟨hq n, hc n, hd n, hs n, hf n, hx n⟩, hh⟩
  · rintro ⟨h, hh⟩
    exact ⟨fun n => (h n).queue, fun n => (h n).cancelList, fun n => (h n).completion, fun n => (h n).sending,
      fun n => (h n).inFlight, fun n => (h n).cancelling, hh⟩

end Sys2Proof.Machine
end

-- ==== What keeps the agreement: standing, and the moves of one slot ====
section
/-! SUPPORT. The moves a slot makes between its states and lists (R23), each with the agreement it needs and the
agreement it leaves. -/

namespace Sys2Proof.Machine

variable {r c r' c' : Option SlotNo} {s t : State} {n : SlotNo}

/-! ## Operations that move no slot -/

/-- All that the agreement sees of the slots and their lists is the same in both states. -/
structure SlotsStand (s t : State) : Prop where
  state         : ∀ n, (t.slot n).state = (s.slot n).state
  inFlight      : ∀ n, (t.slot n).cancelInFlight = (s.slot n).cancelInFlight
  dispatchQueue : t.dispatchQueue = s.dispatchQueue
  cancelList    : t.cancelList = s.cancelList
  completion    : t.completionUnit.queue = s.completionUnit.queue

theorem SlotsStand.trans {u : State} (h : SlotsStand s t) (k : SlotsStand t u) : SlotsStand s u :=
  ⟨fun n => (k.state n).trans (h.state n), fun n => (k.inFlight n).trans (h.inFlight n),
    k.dispatchQueue.trans h.dispatchQueue, k.cancelList.trans h.cancelList, k.completion.trans h.completion⟩

/-- A change of one record that leaves its state and its cancel-in-flight flag. -/
theorem SlotsStand.modifySlot (s : State) (n : SlotNo) {f : Slot → Slot}
    (hs : (f (s.slot n)).state = (s.slot n).state)
    (hf : (f (s.slot n)).cancelInFlight = (s.slot n).cancelInFlight) : SlotsStand s (s.modifySlot n f) where
  state m := by by_cases h : m = n <;> simp [h, hs]
  inFlight m := by by_cases h : m = n <;> simp [h, hf]
  dispatchQueue := rfl
  cancelList := rfl
  completion := rfl

theorem SlotsStand.modifyStation (s : State) (a : Address) (f : Station → Station) :
    SlotsStand s (s.modifyStation a f) := ⟨fun _ => rfl, fun _ => rfl, rfl, rfl, rfl⟩

theorem SlotsStand.onStations (s : State) (f : StationTable → StationTable) : SlotsStand s (s.onStations f) :=
  ⟨fun _ => rfl, fun _ => rfl, rfl, rfl, rfl⟩

theorem ListsAgreeFor.of_stand (h : ListsAgreeFor r c s) (k : SlotsStand s t) : ListsAgreeFor r c t where
  slots n := by
    obtain ⟨queue, cancelList, completion, sending, inFlight, cancelling⟩ := h.slots n
    constructor <;>
      simpa only [k.state, k.inFlight, k.dispatchQueue, k.cancelList, k.completion]
  held := by rw [k.dispatchQueue]; exact h.held

/-! ## Operations that move one slot -/

/-- Every slot but `n` has its record and its places in the lists in both states. -/
structure OthersStand (n : SlotNo) (s t : State) : Prop where
  slot       : ∀ m, m ≠ n → t.slot m = s.slot m
  queue      : ∀ m, m ≠ n → (queuedSlots t.dispatchQueue).count m = (queuedSlots s.dispatchQueue).count m
  cancelList : ∀ m, m ≠ n → t.cancelList.count m = s.cancelList.count m
  completion : ∀ m, m ≠ n → t.completionUnit.queue.count m = s.completionUnit.queue.count m

/-- Where one slot alone has moved, it alone is to be judged, with the places held. -/
theorem ListsAgreeFor.of_othersStand (h : ListsAgreeFor r c s) (k : OthersStand n s t)
    (request : ∀ m, m ≠ n → (r' = some m ↔ r = some m)) (cancel : ∀ m, m ≠ n → (c' = some m ↔ c = some m))
    (own : SlotAgrees r' c' t n) (held : heldPlaces t.dispatchQueue = r'.toList.length) :
    ListsAgreeFor r' c' t where
  held := held
  slots m := by
    by_cases hm : m = n
    · exact hm ▸ own
    · obtain ⟨queue, cancelList, completion, sending, inFlight, cancelling⟩ := h.slots m
      constructor <;>
        simpa only [k.slot m hm, k.queue m hm, k.cancelList m hm, k.completion m hm, request m hm, cancel m hm]

/-- A slot in a state other than SENDING and CANCELLING belongs to no exchange in flight. -/
theorem ListsAgreeFor.not_inFlight (h : ListsAgreeFor r c s) (hs : (s.slot n).state ≠ .sending)
    (hc : (s.slot n).state ≠ .cancelling) : r ≠ some n ∧ (s.slot n).cancelInFlight = false ∧ c ≠ some n := by
  have hf : (s.slot n).cancelInFlight ≠ true := fun e => hc ((h.slots n).cancelling e)
  exact ⟨fun e => hs ((h.slots n).sending.2 e), by simpa using hf, fun e => hf ((h.slots n).inFlight.2 e)⟩

/-- ALLOCATE, RELEASE: a slot moves between FREE and OWNED, in no list. -/
theorem ListsAgreeFor.modifySlot_idle (h : ListsAgreeFor r c s) {f : Slot → Slot}
    (hs : (s.slot n).state = .free ∨ (s.slot n).state = .owned)
    (hf : (f (s.slot n)).state = .free ∨ (f (s.slot n)).state = .owned)
    (hx : (f (s.slot n)).cancelInFlight = false) : ListsAgreeFor r c (s.modifySlot n f) := by
  obtain ⟨hr, -, hc⟩ := h.not_inFlight (n := n) (by rcases hs with e | e <;> simp [e])
    (by rcases hs with e | e <;> simp [e])
  obtain ⟨queue, cancelList, completion, -, -, -⟩ := h.slots n
  refine h.of_othersStand (n := n) ⟨fun m hm => by simp [hm], fun _ _ => rfl, fun _ _ => rfl, fun _ _ => rfl⟩
    (fun _ _ => Iff.rfl) (fun _ _ => Iff.rfl) ?_ h.held
  rcases hs with e | e <;> rcases hf with e' | e' <;> constructor <;> simp_all

/-- What an accepted POST does to the records (R34). -/
theorem State.enqueue_slot (s : State) (n m : SlotNo) :
    (s.enqueue n).slot m =
      if m = n then
        { s.slot n with
          state := .queued, postNumber := s.slotTable.postCounter, deadlineRemaining := (s.slot n).deadline }
      else s.slot m :=
  s.modifySlot_slot n
    (fun r => { r with state := .queued, postNumber := s.slotTable.postCounter, deadlineRemaining := r.deadline }) m

@[simp] theorem State.enqueue_dispatchQueue (s : State) (n : SlotNo) :
    (s.enqueue n).dispatchQueue = joinTail (levelOf (s.slot n).priority) n s.dispatchQueue := rfl

@[simp] theorem State.enqueue_cancelList (s : State) (n : SlotNo) : (s.enqueue n).cancelList = s.cancelList := rfl

@[simp] theorem State.enqueue_completionUnit (s : State) (n : SlotNo) :
    (s.enqueue n).completionUnit = s.completionUnit := rfl

/-- POST: an OWNED slot joins the tail of its level (R34). -/
theorem ListsAgreeFor.enqueue (h : ListsAgreeFor r c s) (hs : (s.slot n).state = .owned) :
    ListsAgreeFor r c (s.enqueue n) := by
  obtain ⟨hr, hf, hc⟩ := h.not_inFlight (n := n) (by simp [hs]) (by simp [hs])
  obtain ⟨queue, cancelList, completion, -, -, -⟩ := h.slots n
  refine h.of_othersStand (n := n)
    ⟨fun m hm => by rw [s.enqueue_slot, if_neg hm], fun m hm => by simp [Ne.symm hm], fun _ _ => rfl, fun _ _ => rfl⟩
    (fun _ _ => Iff.rfl) (fun _ _ => Iff.rfl) ?_ (by simp [h.held])
  constructor <;> simp_all [State.enqueue_slot]

/-- RETIRE: a DONE slot leaves the completion queue (R46). -/
theorem ListsAgreeFor.retire (h : ListsAgreeFor r c s) (hs : (s.slot n).state = .done) :
    ListsAgreeFor r c
      ((s.modifySlot n fun r => { r with state := .free }).onCompletion (CompletionUnit.leave n)) := by
  obtain ⟨hr, hf, hc⟩ := h.not_inFlight (n := n) (by simp [hs]) (by simp [hs])
  obtain ⟨queue, cancelList, completion, -, -, -⟩ := h.slots n
  refine h.of_othersStand (n := n)
    ⟨fun m hm => by simp [hm], fun _ _ => rfl, fun _ _ => rfl, fun m hm => by simp [hm, List.count_filter]⟩
    (fun _ _ => Iff.rfl) (fun _ _ => Iff.rfl) ?_ h.held
  constructor <;> simp_all [List.count_eq_zero]

/-- CANCEL of a WAITING slot, which joins the tail of the Cancel List (R44). -/
theorem ListsAgreeFor.cancelWaiting (h : ListsAgreeFor r c s) (hs : (s.slot n).state = .waiting) :
    ListsAgreeFor r c (s.cancelWaiting n) := by
  obtain ⟨hr, hf, hc⟩ := h.not_inFlight (n := n) (by simp [hs]) (by simp [hs])
  obtain ⟨queue, cancelList, completion, -, -, -⟩ := h.slots n
  unfold State.cancelWaiting
  refine h.of_othersStand (n := n)
    ⟨fun m hm => by simp [hm], fun _ _ => rfl, fun m hm => by simp [Ne.symm hm],
      fun _ _ => rfl⟩
    (fun _ _ => Iff.rfl) (fun _ _ => Iff.rfl) ?_ h.held
  constructor <;> simp_all

/-! ## Completion (R28) -/

@[simp] theorem State.completeSlot_dispatchQueue (s : State) (n : SlotNo) (status : Status) (octet : Octet)
    (payload : List Octet) :
    (s.completeSlot n status octet payload).dispatchQueue = leaveQueue n s.dispatchQueue := rfl

@[simp] theorem State.completeSlot_cancelList (s : State) (n : SlotNo) (status : Status) (octet : Octet)
    (payload : List Octet) :
    (s.completeSlot n status octet payload).cancelList = s.cancelList.filter (· ≠ n) := rfl

@[simp] theorem State.completeSlot_queue (s : State) (n : SlotNo) (status : Status) (octet : Octet)
    (payload : List Octet) :
    (s.completeSlot n status octet payload).completionUnit.queue = s.completionUnit.queue ++ [n] :=
  CompletionUnit.join_queue _ _

@[simp] theorem Slot.finished_state (x : Slot) (status : Status) (octet : Octet) (payload : List Octet) (clock : Word) :
    (x.finished status octet payload clock).state = .done := rfl

@[simp] theorem Slot.finished_cancelInFlight (x : Slot) (status : Status) (octet : Octet) (payload : List Octet)
    (clock : Word) : (x.finished status octet payload clock).cancelInFlight = x.cancelInFlight := rfl

/-- Of the lists, a completion touches the places of its own slot alone. -/
theorem OthersStand.completeSlot (s : State) (n : SlotNo) (status : Status) (octet : Octet) (payload : List Octet) :
    OthersStand n s (s.completeSlot n status octet payload) where
  slot m hm := by simp [hm]
  queue m hm := by simp [List.count_filter, hm]
  cancelList m hm := by simp [List.count_filter, hm]
  completion m hm := by simp [Ne.symm hm]

/-- A slot that is not DONE and belongs to no exchange in flight becomes DONE, from whatever list. -/
theorem ListsAgreeFor.completeSlot (h : ListsAgreeFor r c s) (hs : (s.slot n).state ≠ .done) (hr : r ≠ some n)
    (hc : c ≠ some n) (status : Status) (octet : Octet) (payload : List Octet) :
    ListsAgreeFor r c (s.completeSlot n status octet payload) := by
  obtain ⟨queue, cancelList, completion, -, inFlight, -⟩ := h.slots n
  refine h.of_othersStand (OthersStand.completeSlot s n status octet payload) (fun _ _ => Iff.rfl)
    (fun _ _ => Iff.rfl) ?_ (by simp [h.held])
  constructor <;> simp_all [List.count_eq_zero]

end Sys2Proof.Machine
end

-- ==== The moves of exchanges, and of many slots at once ====
section
/-! SUPPORT. The moves of the slot of a REQUEST and of a CANCEL (R36 to R41, R52, R98), and those that the expiry of
deadlines and the loss of a station make at many slots at once (R42, R96). -/

namespace Sys2Proof.Machine

variable {r c : Option SlotNo} {s t : State} {n : SlotNo}

/-! ## The slot of a REQUEST (R36 to R39, R52) -/

/-- The slot of the REQUEST in flight is SENDING, in no list, with no cancel in flight. -/
theorem ListsAgreeFor.request_sending (h : ListsAgreeFor (some n) c s) :
    (s.slot n).state = .sending ∧ (s.slot n).cancelInFlight = false ∧ c ≠ some n := by
  have hs := (h.slots n).sending.2 rfl
  have hf : (s.slot n).cancelInFlight ≠ true := fun e => by simpa [hs] using (h.slots n).cancelling e
  exact ⟨hs, by simpa using hf, fun e => hf ((h.slots n).inFlight.2 e)⟩

/-- The choice of a REQUEST: a QUEUED slot becomes SENDING and its place is held (R61). -/
theorem ListsAgreeFor.hold (h : ListsAgreeFor none c s) (hs : (s.slot n).state = .queued) :
    ListsAgreeFor (some n) c
      ((s.modifySlot n fun x => { x with state := .sending }).onDispatch (holdPlace n)) := by
  obtain ⟨-, hf, hc⟩ := h.not_inFlight (n := n) (by simp [hs]) (by simp [hs])
  obtain ⟨queue, cancelList, completion, -, -, -⟩ := h.slots n
  have held := h.held
  refine h.of_othersStand (n := n)
    ⟨fun m hm => by simp [hm], fun m hm => by simp [queuedSlots_holdPlace, List.count_filter, hm], fun _ _ => rfl,
      fun _ _ => rfl⟩
    (fun m hm => by simp [Ne.symm hm]) (fun _ _ => Iff.rfl) ?_ (by simp_all [heldPlaces_holdPlace])
  constructor <;> simp_all [queuedSlots_holdPlace, List.count_eq_zero]

/-- ACCEPT: the slot becomes WAITING, or CANCELLING at the tail of the Cancel List, its held place closed (R37). -/
theorem ListsAgreeFor.acceptSlot (h : ListsAgreeFor (some n) c s) : ListsAgreeFor none c (s.acceptSlot n) := by
  obtain ⟨hs, hf, hc⟩ := h.request_sending
  obtain ⟨queue, cancelList, completion, -, -, -⟩ := h.slots n
  unfold State.acceptSlot
  dsimp only
  split
  · refine h.of_othersStand (n := n)
      ⟨fun m hm => by simp [hm], fun m hm => by simp, fun m hm => by simp [Ne.symm hm], fun _ _ => rfl⟩
      (fun m hm => by simp [Ne.symm hm]) (fun _ _ => Iff.rfl) ?_ (by simp)
    constructor <;> simp_all
  · refine h.of_othersStand (n := n)
      ⟨fun m hm => by simp [hm], fun m hm => by simp, fun _ _ => rfl, fun _ _ => rfl⟩
      (fun m hm => by simp [Ne.symm hm]) (fun _ _ => Iff.rfl) ?_ (by simp)
    constructor <;> simp_all

/-- A slot that is to be sent again fills its held place (R38, R52). -/
theorem ListsAgreeFor.requeueSlot (h : ListsAgreeFor (some n) c s) : ListsAgreeFor none c (s.requeueSlot n) := by
  obtain ⟨hs, hf, hc⟩ := h.request_sending
  obtain ⟨queue, cancelList, completion, -, -, -⟩ := h.slots n
  have held := h.held
  unfold State.requeueSlot
  refine h.of_othersStand (n := n)
    ⟨fun m hm => by simp [hm], fun m hm => by simp [count_queuedSlots_fillHeldPlace, hm], fun _ _ => rfl,
      fun _ _ => rfl⟩
    (fun m hm => by simp [Ne.symm hm]) (fun _ _ => Iff.rfl) ?_ (by simp)
  constructor <;> simp_all [count_queuedSlots_fillHeldPlace]

/-- A REQUEST that ends completes its slot, with the held place closed (R52). -/
theorem ListsAgreeFor.endRequest (h : ListsAgreeFor (some n) c s) (status : Status) (octet : Octet) :
    ListsAgreeFor none c (s.endRequest n status octet) := by
  obtain ⟨hs, hf, hc⟩ := h.request_sending
  obtain ⟨queue, cancelList, completion, -, -, -⟩ := h.slots n
  have k := OthersStand.completeSlot (s.onDispatch closeHeldPlace) n status octet []
  unfold State.endRequest
  refine h.of_othersStand ⟨k.slot, fun m hm => by simpa using k.queue m hm, k.cancelList, k.completion⟩
    (fun m hm => by simp [Ne.symm hm]) (fun _ _ => Iff.rfl) ?_ (by simp)
  constructor <;> simp_all [List.count_eq_zero]

/-! ## The slot of a CANCEL (R41, R98) -/

/-- The choice of a CANCEL: the slot leaves the Cancel List, its cancel in flight (R60). -/
theorem ListsAgreeFor.startCancel (h : ListsAgreeFor r none s) (hn : n ∈ s.cancelList) :
    ListsAgreeFor r (some n)
      ((s.modifySlot n fun x => { x with cancelInFlight := true }).onCancelList fun l => l.filter (· ≠ n)) := by
  obtain ⟨queue, cancelList, completion, sending, -, -⟩ := h.slots n
  have hs : (s.slot n).state = .cancelling := by
    by_contra hne
    exact List.count_eq_zero.1 (by simpa [hne] using cancelList) hn
  refine h.of_othersStand (n := n)
    ⟨fun m hm => by simp [hm], fun _ _ => rfl, fun m hm => by simp [List.count_filter, hm], fun _ _ => rfl⟩
    (fun _ _ => Iff.rfl) (fun m hm => by simp [Ne.symm hm]) ?_ h.held
  constructor <;> simp_all [List.count_eq_zero]

/-- A CANCEL that is to be tried again: the slot, its cancel no longer in flight, is on the Cancel List again (R98). -/
theorem ListsAgreeFor.rejoinCancelList (h : ListsAgreeFor r (some n) s) :
    ListsAgreeFor r none ((s.modifySlot n fun x => { x with cancelInFlight := false }).rejoinCancelList n) := by
  obtain ⟨queue, cancelList, completion, sending, inFlight, cancelling⟩ := h.slots n
  have hf := inFlight.2 rfl
  have hs := cancelling hf
  unfold State.rejoinCancelList
  refine h.of_othersStand (n := n)
    ⟨fun m hm => by simp [hm], fun _ _ => rfl, fun m hm => by simp [Ne.symm hm], fun _ _ => rfl⟩
    (fun _ _ => Iff.rfl) (fun m hm => by simp [Ne.symm hm]) ?_ h.held
  constructor <;> simp_all

/-- A completion takes its slot off the Cancel List, so that it makes no difference whether the slot had joined it. -/
theorem State.completeSlot_rejoinCancelList (s : State) (n : SlotNo) (status : Status) (octet : Octet)
    (payload : List Octet) :
    (s.rejoinCancelList n).completeSlot n status octet payload = s.completeSlot n status octet payload := by
  have hl : (s.cancelList ++ [n]).filter (· ≠ n) = s.cancelList.filter (· ≠ n) := by simp
  show { s.completeSlot n status octet payload with cancelList := (s.cancelList ++ [n]).filter (· ≠ n) } = _
  rw [hl]
  rfl

/-! ## Many slots at once -/

/-- A list that holds no slot twice counts each of its slots once. -/
theorem count_of_nodup {l : List SlotNo} (hl : l.Nodup) (m : SlotNo) : l.count m = if m ∈ l then 1 else 0 :=
  nodup_and_mem_iff.1 ⟨hl, fun _ => Iff.rfl⟩ m

/-- The deadlines' expiry: each due slot, WAITING before, joins the Cancel List (R96). -/
theorem ListsAgreeFor.expireDeadlines (h : ListsAgreeFor r c s) : ListsAgreeFor r c s.expireDeadlines := by
  have frame := s.expireDeadlines_frame
  have hq : s.expireDeadlines.dispatchQueue = s.dispatchQueue := by rw [frame]
  have hl : s.expireDeadlines.cancelList = s.cancelList ++ s.expiredSlots := by rw [frame]
  have hu : s.expireDeadlines.completionUnit = s.completionUnit := by rw [frame]
  clear frame
  refine ⟨fun m => ?_, hq ▸ h.held⟩
  have hm := count_of_nodup s.expiredSlots_nodup m
  have slot := s.expireDeadlines_slot m
  obtain ⟨queue, cancelList, completion, sending, inFlight, cancelling⟩ := h.slots m
  by_cases due : (s.slot m).deadlineDue = true
  · have waiting : (s.slot m).state = .waiting := by simp_all [Slot.deadlineDue]
    constructor <;> simp_all [Slot.expired]
  · constructor <;> simp_all

/-- Several slots that leave the Dispatch Queue are gone, the others keep their order (R53). -/
theorem queuedSlots_filter_slots (l : List SlotNo) (q : List Place) :
    queuedSlots (q.filter fun p => ∀ n ∈ l, p.slot ≠ some n) = (queuedSlots q).filter (· ∉ l) := by
  induction q with
  | nil => rfl
  | cons p q ih =>
    obtain ⟨lv, _ | k⟩ := p
    · simpa using ih
    · by_cases h : k ∈ l
      · simpa [h] using ih
      · have hk : ∀ n ∈ l, some k ≠ some n := fun n hn e => h (Option.some.inj e ▸ hn)
        rw [List.filter_cons_of_pos (by simpa using hk)]
        simpa [h] using ih

theorem heldPlaces_filter_slots (l : List SlotNo) (q : List Place) :
    heldPlaces (q.filter fun p => ∀ n ∈ l, p.slot ≠ some n) = heldPlaces q := by
  unfold heldPlaces
  rw [List.filter_filter]
  congr 1
  refine List.filter_congr fun p _ => ?_
  cases p.slot <;> simp

/-- The loss of a station with no exchange in flight: each of its live slots leaves its list for the completion queue
(R30, R42). -/
theorem ListsAgreeFor.loseSlots (h : ListsAgreeFor none none s) (a : Address) :
    ListsAgreeFor none none (s.loseSlots a) := by
  have frame := State.finishAll_frame .stationLost 0 [] (s.lostSlots a) s
  have hq : (s.loseSlots a).dispatchQueue = s.dispatchQueue.filter fun p => ∀ n ∈ s.lostSlots a, p.slot ≠ some n := by
    rw [s.loseSlots_eq a, frame]
  have hl : (s.loseSlots a).cancelList = s.cancelList.filter (· ∉ s.lostSlots a) := by rw [s.loseSlots_eq a, frame]
  have hu : (s.loseSlots a).completionUnit.queue = s.completionUnit.queue ++ s.lostSlots a := by
    rw [s.loseSlots_eq a]; exact CompletionUnit.join_queue _ _
  have slot := State.finishAll_slot .stationLost 0 [] (s.lostSlots_nodup a) s
  replace slot : ∀ m, (s.loseSlots a).slot m =
      if m ∈ s.lostSlots a then (s.slot m).finished .stationLost 0 [] s.lineEngine.clock else s.slot m := fun m =>
    (congrArg (·.slot m) (s.loseSlots_eq a)).trans (slot m)
  clear frame
  refine ⟨fun m => ?_, by rw [hq, heldPlaces_filter_slots]; exact h.held⟩
  have hm := count_of_nodup (s.lostSlots_nodup a) m
  replace slot := slot m
  obtain ⟨queue, cancelList, completion, sending, inFlight, cancelling⟩ := h.slots m
  by_cases lost : m ∈ s.lostSlots a
  · have live := (s.mem_lostSlots.1 lost).2
    have notDone : (s.slot m).state ≠ .done := by rintro e; simp [e, SlotState.held] at live
    constructor <;> simp_all [queuedSlots_filter_slots, List.count_eq_zero]
  · constructor <;> simp_all [queuedSlots_filter_slots, List.count_filter]

end Sys2Proof.Machine
end

-- ==== The outcome of an exchange ====
section
/-! SUPPORT. The taking of an exchange's outcome keeps the agreement (R65, R66): the exchange leaves flight first, and
its own slot then moves to where its new state calls for it. -/

namespace Sys2Proof.Machine

variable {r c : Option SlotNo} {s t : State} {n : SlotNo}

/-! ## The exchange's own slot, or the poll's (R66, first effect) -/

theorem ListsAgreeFor.retrySlot (h : ListsAgreeFor (some n) c s) (status : Status) :
    ListsAgreeFor none c (s.retrySlot n status) := by
  unfold State.retrySlot
  split
  · exact h.requeueSlot
  · exact h.endRequest status 0

theorem ListsAgreeFor.failRequest (h : ListsAgreeFor (some n) c s) (o : ExchangeOutcome) :
    ListsAgreeFor none c (s.failRequest n o) := by
  unfold State.failRequest
  split
  · split
    · exact h.retrySlot .refused
    · exact h.endRequest .rejected _
  · exact h.requeueSlot
  all_goals exact h.retrySlot .noAnswer

theorem ListsAgreeFor.requestEffect (h : ListsAgreeFor (some n) c s) (o : ExchangeOutcome) :
    ListsAgreeFor none c (s.requestEffect n o) := by
  have effect : ∀ s1 : State, ListsAgreeFor (some n) c s1 → ListsAgreeFor none c
      (if o = .answer .accept then s1.acceptSlot n
        else if (s1.slot n).hostCancel then s1.endRequest n .cancelled 0 else s1.failRequest n o) := by
    intro s1 h1
    split
    · exact h1.acceptSlot
    · split
      · exact h1.endRequest .cancelled 0
      · exact h1.failRequest o
  refine effect _ ?_
  split
  · exact h
  · exact h.of_stand (SlotsStand.modifySlot s n rfl rfl)

/-- A slot that is ready to join the Cancel List again may be completed instead. -/
theorem ListsAgreeFor.completeSlot_of_rejoin (h : ListsAgreeFor none none (s.rejoinCancelList n))
    (hs : (s.slot n).state = .cancelling) (status : Status) (octet : Octet) (payload : List Octet) :
    ListsAgreeFor none none (s.completeSlot n status octet payload) := by
  have live : ((s.rejoinCancelList n).slot n).state ≠ .done := by simp [State.rejoinCancelList, hs]
  rw [← State.completeSlot_rejoinCancelList]
  exact h.completeSlot live (by simp) (by simp) status octet payload

theorem State.modifySlot_rejoinCancelList (s : State) (n : SlotNo) (f : Slot → Slot) :
    (s.modifySlot n f).rejoinCancelList n = (s.rejoinCancelList n).modifySlot n f := rfl

/-- A CANCEL without a valid answer: its slot joins the Cancel List again, or is ABANDONED (R101). -/
theorem ListsAgreeFor.cancelUnanswered (h : ListsAgreeFor none none (s.rejoinCancelList n))
    (hs : (s.slot n).state = .cancelling) : ListsAgreeFor none none (s.cancelUnanswered n) := by
  have counted : ListsAgreeFor none none
      ((s.modifySlot n fun x => { x with cancelAttempts := x.cancelAttempts + 1 }).rejoinCancelList n) := by
    rw [State.modifySlot_rejoinCancelList]
    exact h.of_stand (SlotsStand.modifySlot _ n rfl rfl)
  unfold State.cancelUnanswered
  dsimp only
  split
  · exact counted.completeSlot_of_rejoin (by simp [hs]) .abandoned 0 []
  · exact counted

theorem ListsAgreeFor.cancelEffect (h : ListsAgreeFor none (some n) s) (o : ExchangeOutcome) :
    ListsAgreeFor none none (s.cancelEffect n o) := by
  have hs : ((s.modifySlot n fun x => { x with cancelInFlight := false }).slot n).state = .cancelling := by
    simp [(h.slots n).cancelling ((h.slots n).inFlight.2 rfl)]
  unfold State.cancelEffect
  dsimp only
  split
  · exact h.rejoinCancelList.completeSlot_of_rejoin hs _ _ _
  · exact h.rejoinCancelList.completeSlot_of_rejoin hs _ _ _
  · exact h.rejoinCancelList
  all_goals exact h.rejoinCancelList.cancelUnanswered hs

/-- A reply completes a slot that is WAITING or CANCELLING, or moves no slot (R92 to R94). -/
theorem ListsAgreeFor.takeReply (h : ListsAgreeFor none none s) (a : Address) (tag : SlotNo) (octet : Octet)
    (payload : List Octet) : ListsAgreeFor none none (s.takeReply a tag octet payload) := by
  unfold State.takeReply
  dsimp only
  split
  · next hw => exact h.completeSlot (by simp_all) (by simp) (by simp) .ok octet payload
  · split
    · next hw => exact h.completeSlot (by simp_all) (by simp) (by simp) .late octet payload
    · exact h.of_stand ⟨fun _ => rfl, fun _ => rfl, rfl, rfl, rfl⟩

theorem SlotsStand.returnReserved (s : State) (k : PollKind) : SlotsStand s (s.returnReserved k) := by
  cases k <;> exact ⟨fun _ => rfl, fun _ => rfl, rfl, rfl, rfl⟩

theorem SlotsStand.takeEvent (s : State) (k : PollKind) (a : Address) (e : EventAnswer) :
    SlotsStand s (s.takeEvent k a e) := by
  have file : ∀ r q, SlotsStand s (s.fileEvent r a e q) := by
    intro r q
    unfold State.fileEvent
    dsimp only
    split <;> exact ⟨fun _ => rfl, fun _ => rfl, rfl, rfl, rfl⟩
  unfold State.takeEvent
  split
  · exact file _ _
  · exact file _ _
  · exact returnReserved s _

theorem ListsAgreeFor.pollEffect (h : ListsAgreeFor none none s) (k : PollKind) (a : Address) (o : ExchangeOutcome) :
    ListsAgreeFor none none (s.pollEffect k a o) := by
  have returned := h.of_stand (SlotsStand.returnReserved s k)
  unfold State.pollEffect
  split
  · exact returned.takeReply a _ _ _
  · exact h.of_stand (SlotsStand.takeEvent s k a _)
  all_goals exact returned

/-! ## The Station Table's bookkeeping (R66, second and third effects) -/

theorem ListsAgreeFor.goOffline (h : ListsAgreeFor none none s) (a : Address) :
    ListsAgreeFor none none (s.goOffline a) := by
  have lost := (h.of_stand (SlotsStand.modifyStation s a fun e => { e with state := .offline })).loseSlots a
  unfold State.goOffline
  exact lost.of_stand ((SlotsStand.modifyStation _ a _).trans (SlotsStand.onStations _ _))

theorem ListsAgreeFor.bookSilence (h : ListsAgreeFor none none s) (a : Address) :
    ListsAgreeFor none none (s.bookSilence a) := by
  have counted := h.of_stand (SlotsStand.modifyStation s a fun e => { e with noAnswer := e.noAnswer + 1 })
  unfold State.bookSilence
  dsimp only
  split
  · exact counted.goOffline a
  · exact counted

theorem ListsAgreeFor.book (h : ListsAgreeFor none none s) (x : Exchange) (o : ExchangeOutcome) :
    ListsAgreeFor none none (s.book x o) := by
  cases o with
  | answer ans =>
    show ListsAgreeFor none none (s.bookAnswer x ans)
    unfold State.bookAnswer
    dsimp only
    split
    · exact h.of_stand ((SlotsStand.modifyStation s _ _).trans (SlotsStand.onStations _ _))
    · exact h.of_stand (SlotsStand.modifyStation s _ _)
  | noAnswer => exact h.bookSilence x.station
  | checkError => exact h.bookSilence x.station
  | protocolError => exact h.bookSilence x.station
  | echoFault => exact h

/-! ## Taking the outcome (R65, R66) -/

/-- The slot of the REQUEST that an exchange is, and that of the CANCEL it is. -/
def ExchangeKind.requestSlot : ExchangeKind → Option SlotNo
  | .request n => some n
  | .cancel _ | .poll _ _ => none

def ExchangeKind.cancelSlot : ExchangeKind → Option SlotNo
  | .cancel n => some n
  | .request _ | .poll _ _ => none

/-- The kind of the exchange in flight, if there is one. -/
def State.kindInFlight (s : State) : Option ExchangeKind := s.lineScheduler.exchange.map Exchange.kind

theorem State.kindInFlight_congr {s t : State} (h : t.lineScheduler = s.lineScheduler) :
    t.kindInFlight = s.kindInFlight := congrArg (·.exchange.map Exchange.kind) h

theorem State.requestInFlight_eq (s : State) : s.requestInFlight = s.kindInFlight.bind ExchangeKind.requestSlot := by
  unfold State.requestInFlight State.kindInFlight
  rcases s.lineScheduler.exchange with _ | ⟨k, a, f, p⟩
  · rfl
  · cases k <;> rfl

theorem State.cancelInFlight_eq (s : State) : s.cancelInFlight = s.kindInFlight.bind ExchangeKind.cancelSlot := by
  unfold State.cancelInFlight State.kindInFlight
  rcases s.lineScheduler.exchange with _ | ⟨k, a, f, p⟩
  · rfl
  · cases k <;> rfl

/-- The agreement of the statements, with the slots of the kind in flight. -/
theorem slotListsAgree_iff_kind :
    SlotListsAgree s ↔
      ListsAgreeFor (s.kindInFlight.bind ExchangeKind.requestSlot) (s.kindInFlight.bind ExchangeKind.cancelSlot) s := by
  rw [slotListsAgree_iff, s.requestInFlight_eq, s.cancelInFlight_eq]

theorem slotListsAgree_of_kind {k : Option ExchangeKind} (hk : s.kindInFlight = k)
    (h : ListsAgreeFor (k.bind ExchangeKind.requestSlot) (k.bind ExchangeKind.cancelSlot) s) : SlotListsAgree s := by
  subst hk; exact slotListsAgree_iff_kind.2 h

/-- An outcome's effects, with the exchange no longer in flight, leave no slot of it. -/
theorem ListsAgreeFor.applyOutcome (x : Exchange) (h : ListsAgreeFor x.kind.requestSlot x.kind.cancelSlot s)
    (o : ExchangeOutcome) :
    ListsAgreeFor none none (s.applyOutcome x o) := by
  unfold State.applyOutcome
  cases hk : x.kind <;> rw [hk] at h <;> dsimp only
  case request n => exact (ListsAgreeFor.requestEffect h o).book x o
  case cancel n => exact (ListsAgreeFor.cancelEffect h o).book x o
  case poll k ack =>
    split
    · exact ListsAgreeFor.of_stand h (SlotsStand.returnReserved s k)
    · exact (ListsAgreeFor.pollEffect h k x.station o).book x o

/-- The taking of the outcome of the exchange in flight keeps the agreement. -/
theorem SlotListsAgree.settle (h : SlotListsAgree s) {x : Exchange} (hx : s.lineScheduler.exchange = some x)
    (o : ExchangeOutcome) : SlotListsAgree (s.settle x o) := by
  have hk : s.kindInFlight = some x.kind := by simp [State.kindInFlight, hx]
  have agree := slotListsAgree_iff_kind.1 h
  rw [hk] at agree
  refine slotListsAgree_of_kind (k := none) (by simp [State.kindInFlight]) ?_
  have ended : ListsAgreeFor x.kind.requestSlot x.kind.cancelSlot s.endExchange :=
    agree.of_stand ⟨fun _ => rfl, fun _ => rfl, rfl, rfl, rfl⟩
  exact ended.applyOutcome x o

/-! ## Operations that move no slot, with the exchange in flight -/

/-- Where the slots stand and the kind of the exchange in flight too, the agreement stands. -/
theorem SlotListsAgree.of_stand (h : SlotListsAgree s) (k : SlotsStand s t) (hk : t.kindInFlight = s.kindInFlight) :
    SlotListsAgree t :=
  slotListsAgree_of_kind hk ((slotListsAgree_iff_kind.1 h).of_stand k)

/-! ## Changes of one block that holds no slot and no list -/

theorem SlotListsAgree.onPins (h : SlotListsAgree s) (f : Pins → Pins) : SlotListsAgree (s.onPins f) :=
  h.of_stand ⟨fun _ => rfl, fun _ => rfl, rfl, rfl, rfl⟩ rfl

theorem SlotListsAgree.onHost (h : SlotListsAgree s) (f : HostPort → HostPort) : SlotListsAgree (s.onHost f) :=
  h.of_stand ⟨fun _ => rfl, fun _ => rfl, rfl, rfl, rfl⟩ rfl

theorem SlotListsAgree.onStations (h : SlotListsAgree s) (f : StationTable → StationTable) :
    SlotListsAgree (s.onStations f) :=
  h.of_stand ⟨fun _ => rfl, fun _ => rfl, rfl, rfl, rfl⟩ rfl

theorem SlotListsAgree.onClassifier (h : SlotListsAgree s) (f : Classifier → Classifier) :
    SlotListsAgree (s.onClassifier f) :=
  h.of_stand ⟨fun _ => rfl, fun _ => rfl, rfl, rfl, rfl⟩ rfl

theorem SlotListsAgree.onEngine (h : SlotListsAgree s) (f : LineEngine → LineEngine) : SlotListsAgree (s.onEngine f) :=
  h.of_stand ⟨fun _ => rfl, fun _ => rfl, rfl, rfl, rfl⟩ rfl

/-- A change of the Completion Unit that leaves its queue. -/
theorem SlotListsAgree.onCompletion (h : SlotListsAgree s) {f : CompletionUnit → CompletionUnit}
    (hf : (f s.completionUnit).queue = s.completionUnit.queue) : SlotListsAgree (s.onCompletion f) :=
  h.of_stand ⟨fun _ => rfl, fun _ => rfl, rfl, rfl, hf⟩ rfl

/-- A change of the Line Scheduler that leaves the kind of the exchange in flight. -/
theorem SlotListsAgree.onScheduler (h : SlotListsAgree s) {f : LineScheduler → LineScheduler}
    (hf : (f s.lineScheduler).exchange.map Exchange.kind = s.lineScheduler.exchange.map Exchange.kind) :
    SlotListsAgree (s.onScheduler f) :=
  h.of_stand ⟨fun _ => rfl, fun _ => rfl, rfl, rfl, rfl⟩ hf

theorem SlotListsAgree.modifyStation (h : SlotListsAgree s) (a : Address) (f : Station → Station) :
    SlotListsAgree (s.modifyStation a f) := h.onStations _

end Sys2Proof.Machine
end

-- ==== The starting states and the commands ====
section
/-! SUPPORT. The starting states are in agreement (R23, R49), and each of the eleven commands keeps it. -/

namespace Sys2Proof.Machine

variable {s t : State} {n : SlotNo}

/-! ## Starting states -/

/-- With every slot FREE and no flag set, empty lists and no exchange in flight agree (R23, R49). -/
theorem slotListsAgree_of_empty (slots : ∀ m, (s.slot m).state = .free ∧ (s.slot m).cancelInFlight = false)
    (queue : s.dispatchQueue = []) (cancelList : s.cancelList = []) (completion : s.completionUnit.queue = [])
    (exchange : s.lineScheduler.exchange = none) : SlotListsAgree s := by
  refine slotListsAgree_of_kind (k := none) (by simp [State.kindInFlight, exchange])
    ⟨fun m => ?_, by simp [queue, heldPlaces]⟩
  obtain ⟨hs, hf⟩ := slots m
  constructor <;> simp [hs, hf, queue, cancelList, completion]

theorem slotListsAgree_startSweep (s : State) : SlotListsAgree s.startSweep := by
  refine slotListsAgree_of_empty (fun m => ?_) rfl rfl rfl rfl
  simp [State.slot, State.startSweep, SlotTable.initial, Slot.zero]

theorem slotListsAgree_resetWith (s : State) (cause : ResetCause) (sweep : Bool) :
    SlotListsAgree (s.resetWith cause sweep) := by
  refine slotListsAgree_of_empty (fun m => ?_) rfl rfl rfl rfl
  simp [State.slot, State.resetWith, State.reset, SlotTable.initial, Slot.zero]

theorem slotListsAgree_reset : SlotListsAgree State.reset := by
  refine slotListsAgree_of_empty (fun m => ?_) rfl rfl rfl rfl
  simp [State.slot, State.reset, SlotTable.initial, Slot.zero]

theorem SlotListsAgree.releaseReset (h : SlotListsAgree s) : SlotListsAgree s.releaseReset := by
  unfold State.releaseReset
  split
  · exact slotListsAgree_startSweep _
  · exact h

theorem slotListsAgree_powerOn (s : State) : SlotListsAgree s.powerOn := by
  unfold State.powerOn
  split
  · exact slotListsAgree_resetWith _ _ _
  · exact (slotListsAgree_resetWith _ _ _).releaseReset

/-! ## The slot commands -/

/-- A command whose DONE result leaves the slots and their lists in agreement; any other result changes no slot. -/
inductive Verdict.KeepsAgreement : Verdict → Prop
  | done {value : Word} {t : State} (h : SlotListsAgree t) : KeepsAgreement (.done value t)
  | fails (r : Result) : KeepsAgreement (.fails r)

theorem Verdict.KeepsAgreement.withOperand {α : Type} {operand : Option α} {body : α → Verdict}
    (h : ∀ x, (body x).KeepsAgreement) : (Machine.withOperand operand body).KeepsAgreement := by
  cases operand with
  | none => exact .fails _
  | some x => exact h x

/-- A command write keeps the agreement when the command it orders does. -/
theorem SlotListsAgree.takeCommand (h : SlotListsAgree s) (code : Word) {body : State → Verdict}
    (hb : (body s).KeepsAgreement) : SlotListsAgree (s.takeCommand code body) := by
  unfold State.takeCommand
  split
  · exact h
  · split
    · exact h.onHost _
    · split
      · next e =>
        rw [e] at hb
        cases hb with
        | done hu => exact hu.onHost _
      · exact h.onHost _

/-- A move of a slot that leaves the exchange in flight. -/
theorem SlotListsAgree.of_move (h : SlotListsAgree s) (hk : t.kindInFlight = s.kindInFlight)
    (move : ∀ {r c}, ListsAgreeFor r c s → ListsAgreeFor r c t) : SlotListsAgree t :=
  slotListsAgree_of_kind hk (move (slotListsAgree_iff_kind.1 h))

theorem SlotListsAgree.allocate (h : SlotListsAgree s) : s.allocate.KeepsAgreement := by
  unfold State.allocate
  split
  · next n hn =>
    have free : (s.slot n).state = .free := by simpa using List.find?_some hn
    exact .done (h.of_move rfl fun a => a.modifySlot_idle (.inl free) (.inr rfl) rfl)
  · exact .fails _

theorem SlotListsAgree.post (h : SlotListsAgree s) (n : SlotNo) : (s.post n).KeepsAgreement := by
  unfold State.post
  split
  · exact .fails _
  · next passed =>
    have owned : (s.slot n).state = .owned := by
      by_contra hne
      simp [State.postRefusal, hne] at passed
    exact .done (h.of_move rfl fun a => a.enqueue owned)

theorem SlotListsAgree.release (h : SlotListsAgree s) (n : SlotNo) : (s.release n).KeepsAgreement := by
  unfold State.release
  split
  · next owned =>
    refine .done (h.of_move rfl fun a => a.modifySlot_idle (.inr owned) (.inl rfl) ?_)
    exact (a.not_inFlight (by simp [owned]) (by simp [owned])).2.1
  · exact .fails _

theorem SlotListsAgree.retire (h : SlotListsAgree s) (n : SlotNo) : (s.retire n).KeepsAgreement := by
  unfold State.retire
  split
  · next done => exact .done (h.of_move rfl fun a => a.retire done)
  · exact .fails _

theorem SlotListsAgree.cancelCancelling (h : SlotListsAgree s) (hs : (s.slot n).state = .cancelling) :
    (s.cancelCancelling n).KeepsAgreement := by
  unfold State.cancelCancelling
  split
  · exact .fails _
  · next idle =>
    split
    · exact .fails _
    · refine .done (h.of_move rfl fun a => a.completeSlot (by simp [hs]) ?_ ?_ _ _ _)
      · exact fun e => by simpa [hs] using (a.slots n).sending.2 e
      · exact fun e => idle ((a.slots n).inFlight.2 e)

theorem SlotListsAgree.cancel (h : SlotListsAgree s) (n : SlotNo) : (s.cancel n).KeepsAgreement := by
  unfold State.cancel
  split
  · exact .fails _
  · exact .fails _
  · exact .fails _
  · next hs =>
    refine .done (h.of_move rfl fun a => ?_)
    obtain ⟨hr, -, hc⟩ := a.not_inFlight (n := n) (by simp [hs]) (by simp [hs])
    exact a.completeSlot (by simp [hs]) hr hc _ _ _
  · exact .done (h.of_stand (SlotsStand.modifySlot s n rfl rfl) rfl)
  · next hs => exact .done (h.of_move rfl fun a => a.cancelWaiting hs)
  · next hs => exact h.cancelCancelling hs

/-! ## The other commands -/

theorem SlotListsAgree.stationEnable (h : SlotListsAgree s) (a : Address) : (s.stationEnable a).KeepsAgreement := by
  unfold State.stationEnable
  split
  · exact .done (h.modifyStation a _)
  · exact .fails _

theorem SlotListsAgree.stationDisable (h : SlotListsAgree s) (a : Address) : (s.stationDisable a).KeepsAgreement := by
  unfold State.stationDisable
  split
  · exact .fails _
  · split
    · exact .fails _
    · exact .done (h.modifyStation a _)

theorem SlotListsAgree.revive (h : SlotListsAgree s) (a : Address) : (s.revive a).KeepsAgreement := by
  unfold State.revive
  split
  · exact .done (h.modifyStation a _)
  · exact .fails _

theorem SlotListsAgree.unquarantine (h : SlotListsAgree s) (a : Address) (n : SlotNo) :
    (s.unquarantine a n).KeepsAgreement := by
  unfold State.unquarantine
  split
  · exact .done (h.modifyStation a _)
  · exact .fails _

theorem SlotListsAgree.eventFree (h : SlotListsAgree s) (q : EventQueue) : (s.eventFree q).KeepsAgreement := by
  unfold State.eventFree
  split
  · exact .done (h.of_stand ⟨fun _ => rfl, fun _ => rfl, rfl, rfl, rfl⟩ rfl)
  · exact .fails _

theorem keepsAgreement_initialise (s : State) : s.initialise.KeepsAgreement := by
  unfold State.initialise
  split
  · exact .done (slotListsAgree_startSweep s)
  · exact .fails _

/-- Each command code orders a command that keeps the agreement (11.3). -/
theorem SlotListsAgree.commandBody (h : SlotListsAgree s) (code : Word) :
    (Machine.commandBody code s).KeepsAgreement := by
  generalize hb : Machine.commandBody code = body
  unfold Machine.commandBody at hb
  split at hb <;> subst hb
  · exact h.allocate
  · exact .withOperand h.post
  · exact .withOperand h.release
  · exact .withOperand h.retire
  · exact .withOperand h.cancel
  · exact .withOperand h.stationEnable
  · exact .withOperand h.stationDisable
  · exact .withOperand h.revive
  · exact .withOperand fun a => .withOperand fun n => h.unquarantine a n
  · exact .withOperand h.eventFree
  · exact keepsAgreement_initialise s
  · exact .fails _

theorem SlotListsAgree.writeCommand (h : SlotListsAgree s) (code : Word) : SlotListsAgree (s.writeCommand code) :=
  h.takeCommand code (h.commandBody code)

end Sys2Proof.Machine
end

-- ==== Every step keeps the agreement ====
section
/-! SUPPORT. The line, the Line Scheduler, the timers, the registers and the resets keep the agreement, and so does
every step (O58). -/

namespace Sys2Proof.Machine

variable {s t : State} {n : SlotNo}

/-! ## The line (08) -/

theorem SlotListsAgree.moveLineLatching (h : SlotListsAgree s) (l : LineState) :
    SlotListsAgree (s.moveLineLatching l) := (h.onEngine _).onCompletion rfl

theorem SlotListsAgree.recordError (h : SlotListsAgree s) (kind : ErrorKind) (a : Address) :
    SlotListsAgree (s.recordError kind a) := (h.onEngine _).onCompletion rfl

theorem SlotListsAgree.setPhase (h : SlotListsAgree s) (p : Phase) : SlotListsAgree (s.setPhase p) := by
  refine h.onScheduler ?_
  cases s.lineScheduler.exchange <;> rfl

/-- FAULT takes the outcome of the exchange in flight (R143). -/
theorem SlotListsAgree.enterFault (h : SlotListsAgree s) : SlotListsAgree s.enterFault := by
  unfold State.enterFault
  dsimp only
  split
  · exact h.moveLineLatching .fault
  · next hx => exact (h.moveLineLatching .fault).settle hx _

theorem SlotListsAgree.enterStarting (h : SlotListsAgree s) : SlotListsAgree s.enterStarting := by
  have started : SlotListsAgree
      ((s.onEngine fun e => { e with state := .starting, echoCount := 0, gapPassed := false }).onScheduler
        fun l => { l with burst := 0 }) := (h.onEngine _).onScheduler rfl
  unfold State.enterStarting
  dsimp only
  split
  · exact started.enterFault
  · exact started

theorem SlotListsAgree.runOne (h : SlotListsAgree s) : SlotListsAgree s.runOne := by
  unfold State.runOne
  split
  · split
    · exact h
    · exact h.enterStarting
  · exact h.onEngine _
  all_goals exact h

theorem SlotListsAgree.runZero (h : SlotListsAgree s) : SlotListsAgree s.runZero := by
  unfold State.runZero
  split
  · exact h.moveLineLatching .off
  · split <;> exact h.onEngine _
  · exact h.onEngine _
  all_goals exact h

theorem SlotListsAgree.endSettle (h : SlotListsAgree s) : SlotListsAgree s.endSettle := by
  unfold State.endSettle
  split
  · exact (h.onEngine _).onEngine _
  · exact h

theorem SlotListsAgree.contend (h : SlotListsAgree s) : SlotListsAgree s.contend := by
  unfold State.contend
  split
  · exact (h.recordError .echo 0).enterFault
  · exact h

theorem SlotListsAgree.setLfault (h : SlotListsAgree s) (level : Bool) : SlotListsAgree (s.setLfault level) := by
  unfold State.setLfault
  dsimp only
  split
  · exact (h.onPins _).enterFault
  · exact h.onPins _

theorem SlotListsAgree.passGap (h : SlotListsAgree s) : SlotListsAgree s.passGap := by
  unfold State.passGap
  split
  · exact h
  · exact h
  all_goals exact h.onEngine _

theorem SlotListsAgree.frameSent (h : SlotListsAgree s) : SlotListsAgree s.frameSent := by
  unfold State.frameSent
  split
  · exact (h.setPhase .windowOpen).onEngine _
  · exact h

theorem SlotListsAgree.echoMismatch (h : SlotListsAgree s) (bit : Nat) : SlotListsAgree (s.echoMismatch bit) := by
  unfold State.echoMismatch
  split
  · exact h
  · next x hx =>
    have noted : SlotListsAgree (((s.setPhase (.decided .echoFault)).recordError .echo x.station).onEngine fun e =>
        { e with echoCount := e.echoCount + 1, gapPassed := false }) :=
      ((h.setPhase _).recordError .echo x.station).onEngine _
    split
    · dsimp only
      split
      · exact noted.enterFault
      · exact noted
    · exact h

theorem SlotListsAgree.beginAnswer (h : SlotListsAgree s) (bitTime : Nat) : SlotListsAgree (s.beginAnswer bitTime) := by
  unfold State.beginAnswer
  split
  · exact h.setPhase .receiving
  · exact h

theorem SlotListsAgree.closeWindow (h : SlotListsAgree s) : SlotListsAgree s.closeWindow := by
  unfold State.closeWindow
  split
  · exact (h.setPhase _).onEngine _
  · exact h

theorem SlotListsAgree.noteLineError (h : SlotListsAgree s) (a : Address) (o : ExchangeOutcome) :
    SlotListsAgree (s.noteLineError a o) := by
  cases o with
  | checkError => exact h.recordError .check a
  | protocolError => exact h.recordError .protocol a
  | answer _ => exact h
  | noAnswer => exact h
  | echoFault => exact h

theorem SlotListsAgree.takeAnswer (h : SlotListsAgree s) (run : List RxOctet) : SlotListsAgree (s.takeAnswer run) := by
  unfold State.takeAnswer
  split
  · exact h
  · next x hx =>
    split
    · exact ((h.setPhase _).noteLineError x.station _).onEngine _
    · exact h

theorem SlotListsAgree.takeOutcome (h : SlotListsAgree s) : SlotListsAgree s.takeOutcome := by
  unfold State.takeOutcome
  split
  · exact h
  · next x hx =>
    split
    · next o ho =>
      dsimp only
      split
      · exact (h.settle hx o).moveLineLatching .off
      · exact h.settle hx o
    all_goals exact h

/-! ## The Line Scheduler's choice (03) -/

/-- The slot picked for a REQUEST is QUEUED (R54, R56). -/
theorem State.pickRequest_queued (h : s.pickRequest = some n) : (s.slot n).state = .queued := by
  have eligible : s.eligible n = true := by
    unfold State.pickRequest at h
    rcases hu : (levelList .urgent s.dispatchQueue).find? s.eligible with _ | m
    · rw [hu] at h; exact List.find?_some (by simpa using h)
    · rw [hu] at h
      obtain rfl : m = n := by simpa using h
      exact List.find?_some hu
  simp only [State.eligible, Bool.and_eq_true, decide_eq_true_eq] at eligible
  obtain ⟨⟨⟨⟨queued, -⟩, -⟩, -⟩, -⟩ := eligible
  exact queued

/-- With no exchange in flight the agreement is that of no slot of an exchange. -/
theorem SlotListsAgree.of_idle (h : SlotListsAgree s) (idle : s.lineScheduler.exchange = none) :
    ListsAgreeFor none none s := by
  simpa [State.kindInFlight, idle] using slotListsAgree_iff_kind.1 h

/-- A slot is launched on an exchange: its move is made and the exchange is in flight (R57). -/
theorem slotListsAgree_launch (x : Exchange) (h : ListsAgreeFor x.kind.requestSlot x.kind.cancelSlot s) :
    SlotListsAgree (s.launch x) :=
  slotListsAgree_of_kind (k := some x.kind) rfl (h.of_stand ⟨fun _ => rfl, fun _ => rfl, rfl, rfl, rfl⟩)

theorem slotListsAgree_sendCancel (h : ListsAgreeFor none none s) (hn : n ∈ s.cancelList) :
    SlotListsAgree (s.sendCancel n) :=
  slotListsAgree_launch _ (h.startCancel hn)

theorem slotListsAgree_sendRequest (h : ListsAgreeFor none none s) (hs : (s.slot n).state = .queued) :
    SlotListsAgree (s.sendRequest n) :=
  slotListsAgree_launch _ (h.hold hs)

theorem slotListsAgree_sendPoll (h : ListsAgreeFor none none s) (a : Address) : SlotListsAgree (s.sendPoll a) := by
  refine slotListsAgree_launch _ (h.of_stand ?_)
  unfold State.reserve
  cases s.pollKindFor a <;> exact ⟨fun _ => rfl, fun _ => rfl, rfl, rfl, rfl⟩

/-- What a choice rests on: a CANCEL goes to a slot of the Cancel List, a REQUEST to the slot that is picked (R58). -/
theorem State.choice_cases {c : Choice} (h : s.choice = some c) :
    (∃ n, c = .cancel n ∧ n ∈ s.cancelList) ∨ (∃ a, c = .poll a) ∨
      ∃ n, (c = .requestInBurst n ∨ c = .requestEmptyRing n) ∧ s.pickRequest = some n := by
  unfold State.choice at h
  split at h
  · next n l hl =>
    obtain rfl : Choice.cancel n = c := by simpa using h
    exact .inl ⟨n, rfl, by simp [hl]⟩
  · split at h
    · next n hn =>
      obtain rfl : Choice.requestInBurst n = c := by simpa using h
      exact .inr (.inr ⟨n, .inl rfl, by split at hn <;> simp_all⟩)
    · split at h
      · next a _ =>
        obtain rfl : Choice.poll a = c := by simpa using h
        exact .inr (.inl ⟨a, rfl⟩)
      · obtain ⟨n, hn, rfl⟩ : ∃ n, s.pickRequest = some n ∧ Choice.requestEmptyRing n = c := by simpa using h
        exact .inr (.inr ⟨n, .inr rfl, hn⟩)

theorem SlotListsAgree.choose (h : SlotListsAgree s) : SlotListsAgree s.choose := by
  unfold State.choose
  split
  · next may =>
    have idle : ListsAgreeFor none none s := by
      have noExchange : s.lineScheduler.exchange = none := by
        simp only [State.mayChoose, Bool.and_eq_true, Option.isNone_iff_eq_none] at may
        obtain ⟨⟨-, idle⟩, -⟩ := may
        exact idle
      exact h.of_idle noExchange
    have burst : ∀ k, ListsAgreeFor none none (s.setBurst k) := fun k =>
      idle.of_stand ⟨fun _ => rfl, fun _ => rfl, rfl, rfl, rfl⟩
    split
    · next c hc =>
      obtain ⟨n, rfl, hn⟩ | ⟨a, rfl⟩ | ⟨n, rfl | rfl, hn⟩ := State.choice_cases hc
      · exact slotListsAgree_sendCancel idle hn
      · exact slotListsAgree_sendPoll (burst 0) a
      · exact slotListsAgree_sendRequest (burst _) (s.pickRequest_queued hn)
      · exact slotListsAgree_sendRequest (burst 0) (s.pickRequest_queued hn)
    · exact h
  · exact h

/-! ## The timers (R87, R96, R148, R156) -/

theorem SlotListsAgree.expireDeadlines (h : SlotListsAgree s) : SlotListsAgree s.expireDeadlines :=
  h.of_move (State.kindInFlight_congr (by rw [s.expireDeadlines_frame])) ListsAgreeFor.expireDeadlines

@[simp] theorem CompletionUnit.expire_queue (u : CompletionUnit) : u.expire.queue = u.queue := by
  rw [u.expire_eq]; split <;> rfl

@[simp] theorem Slot.countDown_state (x : Slot) : x.countDown.state = x.state := by
  unfold Slot.countDown
  split <;> rfl

@[simp] theorem Slot.countDown_cancelInFlight (x : Slot) : x.countDown.cancelInFlight = x.cancelInFlight := by
  unfold Slot.countDown
  split <;> rfl

theorem SlotListsAgree.countDown (h : SlotListsAgree s) : SlotListsAgree s.countDown := by
  have frame := s.countDown_frame
  have stand : SlotsStand s s.countDown :=
    { state := fun m => by rw [s.countDown_slot]; exact Slot.countDown_state _
      inFlight := fun m => by rw [s.countDown_slot]; exact Slot.countDown_cancelInFlight _
      dispatchQueue := by rw [frame]
      cancelList := by rw [frame]
      completion := by rw [frame] }
  exact h.of_stand stand (State.kindInFlight_congr (by rw [frame]))

theorem SlotListsAgree.stepClock (h : SlotListsAgree s) : SlotListsAgree s.stepClock := by
  unfold State.stepClock
  split
  · exact h
  · exact ((h.expireDeadlines.onStations _).onCompletion (CompletionUnit.expire_queue _)).countDown

/-! ## The registers and the window (10) -/

theorem SlotListsAgree.access (h : SlotListsAgree s) {f : State → State} (hf : SlotListsAgree (f s)) :
    SlotListsAgree (s.access f) := by
  unfold State.access
  split
  · exact h
  · exact hf

theorem SlotListsAgree.writeControl (h : SlotListsAgree s) (w : Word) : SlotListsAgree (s.writeControl w) := by
  have stored : SlotListsAgree ((s.onHost fun x => { x with run := w.getLsbD 0 }).onCompletion fun u =>
      { u with interruptEnable := w.getLsbD 1 }) := (h.onHost _).onCompletion rfl
  unfold State.writeControl
  split
  · exact slotListsAgree_resetWith s .chip true
  · dsimp only
    split
    · exact stored.runOne
    · exact stored.runZero

theorem SlotListsAgree.reportRefusal (h : SlotListsAgree s) : SlotListsAgree s.reportRefusal :=
  (h.onHost _).onCompletion rfl

theorem SlotListsAgree.tested (h : SlotListsAgree s) (ok : Bool) (ht : SlotListsAgree t) :
    SlotListsAgree (s.tested ok t) := by
  unfold State.tested
  split
  · exact ht
  · exact h.reportRefusal

@[simp] theorem CompletionUnit.writeCause_queue (w : Word) (u : CompletionUnit) : (u.writeCause w).queue = u.queue := by
  unfold CompletionUnit.writeCause
  dsimp only
  split
  · exact u.clearComplete_queue
  · rfl

@[simp] theorem CompletionUnit.setCoalesce_queue (threshold holdoff : Nat) (u : CompletionUnit) :
    (u.setCoalesce threshold holdoff).queue = u.queue := by
  rw [u.setCoalesce_eq]; split <;> rfl

theorem SlotListsAgree.writeCoalesce (h : SlotListsAgree s) (w : Word) : SlotListsAgree (s.writeCoalesce w) :=
  h.tested _ (h.onCompletion (CompletionUnit.setCoalesce_queue _ _ _))

theorem SlotListsAgree.writeLineRate (h : SlotListsAgree s) (w : Word) : SlotListsAgree (s.writeLineRate w) := by
  unfold State.writeLineRate
  split
  · exact h.tested _ (h.onEngine _)
  · exact h.reportRefusal

theorem SlotListsAgree.writeClassifierSetup (h : SlotListsAgree s) (w : Word) :
    SlotListsAgree (s.writeClassifierSetup w) := by
  unfold State.writeClassifierSetup
  split
  · exact h.onClassifier _
  · exact h.reportRefusal

/-- The host's write of a slot's word leaves its state and its flags (R24). -/
theorem Slot.writeWord_stands {x y : Slot} {k : Fin 80} {w : Word} (h : x.writeWord k w = some y) :
    y.state = x.state ∧ y.cancelInFlight = x.cancelInFlight := by
  unfold Slot.writeWord at h
  split at h
  case h_6 =>
    split at h
    · cases h; exact ⟨rfl, rfl⟩
    · cases h
  all_goals cases h; exact ⟨rfl, rfl⟩

theorem SlotListsAgree.tableWrite (h : SlotListsAgree s) {addr : BitVec 12} {w : Word}
    (ht : s.tableWrite addr w = some t) : SlotListsAgree t := by
  unfold State.tableWrite at ht
  split at ht
  · split at ht
    · obtain ⟨x, hx, rfl⟩ := Option.map_eq_some_iff.1 ht
      obtain ⟨state, inFlight⟩ := Slot.writeWord_stands hx
      exact h.of_stand (SlotsStand.modifySlot s _ state inFlight) rfl
    · cases ht
  · split at ht
    · cases ht
    · obtain ⟨x, hx, rfl⟩ := Option.map_eq_some_iff.1 ht
      exact h.modifyStation _ _
  · obtain ⟨x, hx, rfl⟩ := Option.map_eq_some_iff.1 ht
    exact h.onClassifier _
  · cases ht
  · cases ht

theorem SlotListsAgree.writeWindow (h : SlotListsAgree s) (w : Word) : SlotListsAgree (s.writeWindow w) := by
  unfold State.writeWindow
  split
  · next t ht =>
    split at ht
    · cases ht
    · exact (h.tableWrite ht).onHost _
  · exact h.reportRefusal.onHost _

theorem SlotListsAgree.readWindow (h : SlotListsAgree s) : SlotListsAgree s.readWindow := by
  unfold State.readWindow
  split
  · exact h.onPins _
  · split
    · exact (h.onPins _).onHost _
    · exact (h.onPins _).reportRefusal.onHost _

theorem SlotListsAgree.writeNamed (h : SlotListsAgree s) (w : Word) (r : Register) :
    SlotListsAgree (s.writeNamed w r) := by
  cases r with
  | control => exact h.writeControl w
  | status => exact h.onHost _
  | cause => exact h.onCompletion (CompletionUnit.writeCause_queue w _)
  | causeEnable => exact h.onCompletion rfl
  | command => exact h.writeCommand w
  | commandArg => exact h.onHost _
  | stationChangesLow => exact h.onStations _
  | stationChangesHigh => exact h.onStations _
  | windowAddress => exact h.onHost _
  | windowData => exact h.writeWindow w
  | lineRate => exact h.writeLineRate w
  | answerWindow => exact h.tested _ (h.onEngine _)
  | stationLimits => exact h.tested _ ((h.onStations _).onScheduler rfl)
  | holdoff => exact h.tested _ (h.onStations _)
  | coalesce => exact h.writeCoalesce w
  | classifierSetup => exact h.writeClassifierSetup w
  | ident | commandResult | completionHead | completionCount | eventHeadA | eventHeadB | poolStatus | lineClock
  | lineErrorRecord | strayRecord => exact h

theorem SlotListsAgree.writeRegister (h : SlotListsAgree s) (select : BitVec 5) (w : Word) :
    SlotListsAgree (s.writeRegister select w) := by
  refine h.access ?_
  split
  · exact h.writeNamed w _
  · exact h

/-! ## The resets and the sweep (10.4, 10.5) -/

theorem SlotListsAgree.endSweep (h : SlotListsAgree s) : SlotListsAgree s.endSweep := by
  have ended : SlotListsAgree
      ((s.onHost fun x => { x with sweep := false }).onCompletion CompletionUnit.latchInitDone) :=
    (h.onHost _).onCompletion rfl
  unfold State.endSweep
  split
  · dsimp only
    split
    · exact ended.enterStarting
    · exact ended
  · exact h

/-! ## Every command, and the step -/

/-- Every command keeps the slots and their lists in agreement. -/
theorem SlotListsAgree.exec (h : SlotListsAgree s) (c : Instr) :
    ∃ t, Machine.exec c s = .next t ∧ SlotListsAgree t := by
  cases c with
  | allocate => exact ⟨_, rfl, h.writeCommand 1⟩
  | post => exact ⟨_, rfl, h.writeCommand 2⟩
  | release => exact ⟨_, rfl, h.writeCommand 3⟩
  | retire => exact ⟨_, rfl, h.writeCommand 4⟩
  | cancel => exact ⟨_, rfl, h.writeCommand 5⟩
  | stationEnable => exact ⟨_, rfl, h.writeCommand 6⟩
  | stationDisable => exact ⟨_, rfl, h.writeCommand 7⟩
  | revive => exact ⟨_, rfl, h.writeCommand 8⟩
  | unquarantine => exact ⟨_, rfl, h.writeCommand 9⟩
  | eventFree => exact ⟨_, rfl, h.writeCommand 10⟩
  | initialise => exact ⟨_, rfl, h.writeCommand 11⟩
  | unknownCommandCode code => exact ⟨_, rfl, h.writeCommand code⟩
  | runWrite1 w => exact ⟨_, rfl, h.access (h.writeControl w)⟩
  | runWrite0 w => exact ⟨_, rfl, h.access (h.writeControl w)⟩
  | interruptEnableWrite w => exact ⟨_, rfl, h.access (h.writeControl w)⟩
  | chipReset w => exact ⟨_, rfl, h.access (h.writeControl w)⟩
  | causeWrite w => exact ⟨_, rfl, h.access (h.writeNamed w .cause)⟩
  | refusedFlagClear w => exact ⟨_, rfl, h.access (h.writeNamed w .status)⟩
  | stationChangesWrite high w => exact ⟨_, rfl, h.access (h.onStations _)⟩
  | coalesceWrite w => exact ⟨_, rfl, h.access (h.writeCoalesce w)⟩
  | registerWrite select w => exact ⟨_, rfl, h.writeRegister select w⟩
  | windowDataRead => exact ⟨_, rfl, h.readWindow⟩
  | windowDataWrite w => exact ⟨_, rfl, h.access (h.writeWindow w)⟩
  | pinReset => exact ⟨_, rfl, slotListsAgree_resetWith _ .pin false⟩
  | resetRelease => exact ⟨_, rfl, h.releaseReset⟩
  | powerOn => exact ⟨_, rfl, slotListsAgree_powerOn s⟩
  | sweepEnd => exact ⟨_, rfl, h.endSweep⟩
  | lineClockStep => exact ⟨_, rfl, h.stepClock⟩
  | deadlineExpiry => exact ⟨_, rfl, h.expireDeadlines⟩
  | holdExpiry => exact ⟨_, rfl, h.onStations _⟩
  | coalescingTimerExpiry => exact ⟨_, rfl, h.onCompletion (CompletionUnit.expire_queue _)⟩
  | settleEnd => exact ⟨_, rfl, h.endSettle⟩
  | contention => exact ⟨_, rfl, h.contend⟩
  | lfault asserted => exact ⟨_, rfl, h.setLfault asserted⟩
  | turnaroundGapEnd => exact ⟨_, rfl, h.passGap⟩
  | lineSchedulerChoice => exact ⟨_, rfl, h.choose⟩
  | frameCompletelySent => exact ⟨_, rfl, h.frameSent⟩
  | echoFault bit => exact ⟨_, rfl, h.echoMismatch bit⟩
  | answerWindowClose => exact ⟨_, rfl, h.closeWindow⟩
  | answer run => exact ⟨_, rfl, h.takeAnswer run⟩
  | ignoredRun run => exact ⟨_, rfl, h⟩
  | outcomeTaken => exact ⟨_, rfl, h.takeOutcome⟩
  | answerBegins bitTime => exact ⟨_, rfl, h.beginAnswer bitTime⟩

/-- The step keeps the agreement: on an empty queue it idles, and otherwise the command at the front is carried out. -/
theorem SlotListsAgree.step (h : SlotListsAgree s) (ht : Machine.step s = .next t) : SlotListsAgree t := by
  unfold Machine.step at ht
  split at ht
  · cases ht; exact h
  · next c rest _ =>
    have shorter : SlotListsAgree { s with pending := rest } :=
      h.of_stand ⟨fun _ => rfl, fun _ => rfl, rfl, rfl, rfl⟩ rfl
    obtain ⟨u, hu, agree⟩ := shorter.exec c
    rw [hu] at ht
    cases ht
    exact agree

/-- Settles O58: the slots agree with their lists right after a reset, and each command keeps them so. -/
theorem stepsKeepSlotsAndListsInAgreement : Obligations.StepsKeepSlotsAndListsInAgreement :=
  ⟨slotListsAgree_reset, fun _ _ ht h => SlotListsAgree.step h ht⟩

end Sys2Proof.Machine
end

-- ==== The slot commands (02) ====
section
/-! SUPPORT. The commands ALLOCATE, POST, RELEASE, RETIRE and CANCEL: what each comes to with a slot operand, and the
obligations about them (R31 to R35, R43 to R47). -/

namespace Sys2Proof.Machine

variable {s : State} {n : SlotNo}

/-! ## The operand -/

/-- A slot operand 0–31 is handed to the command. -/
theorem withOperand_slot (h : s.argLow = n.val) (body : SlotNo → Verdict) :
    withOperand (slotOperand s.hostPort.commandArg) body = body n := by
  rw [slotOperand_eq h]; rfl

/-- A slot operand above 31 gives BAD_OPERAND, whatever the command (R47). -/
theorem withOperand_slot_bad (h : 31 < s.argLow) (body : SlotNo → Verdict) :
    withOperand (slotOperand s.hostPort.commandArg) body = .fails .badOperand := by
  rw [slotOperand_none h]; rfl

/-! ## A command that changes one slot alone -/

/-- A command that comes to DONE with one record changed leaves all but that record and the Host Port. -/
theorem takeCommand_modifySlot (h : Ready s) {code v : Word} {body : State → Verdict} {f : Slot → Slot}
    (hb : body s = .done v (s.modifySlot n f)) :
    ∃ t, Host.Outcome.next (φ := Fault) (ρ := Refusal) (s.takeCommand code body) = .next t ∧
      t = { s with slotTable := t.slotTable, hostPort := s.answered code v } ∧
      OnlySlot n s t ∧ t.slot n = f (s.slot n) := by
  rw [takeCommand_done h hb]
  exact ⟨_, rfl, rfl, ⟨rfl, fun _ hm => s.modifySlot_slot_ne n f hm⟩, s.modifySlot_slot_self n f⟩

/-- Settles O10: the search in increasing order finds the lowest FREE slot. -/
theorem allocateTakesTheLowestFreeSlot : Obligations.AllocateTakesTheLowestFreeSlot := by
  intro s ready
  constructor
  · intro n free lowest
    have found : allSlots.find? (fun m => (s.slot m).state = .free) = some n :=
      find?_finRange_eq_some.2 ⟨by simpa using free, fun m hm => by simpa using lowest m hm⟩
    have verdict : s.commandAllocate = .done (BitVec.ofNat 16 n.val) (s.modifySlot n Slot.allocated) := by
      simp [State.commandAllocate, State.allocate, found]
    exact takeCommand_modifySlot ready verdict
  · intro noneFree
    have found : allSlots.find? (fun m => (s.slot m).state = .free) = none :=
      find?_finRange_eq_none.2 fun m => by simpa using noneFree m
    have verdict : s.commandAllocate = .fails .nothing := by
      simp [State.commandAllocate, State.allocate, found]
    exact congrArg Host.Outcome.next (takeCommand_fails ready verdict)

/-! ## POST (R33, R34) -/

/-- A station is served exactly when it is neither DISABLED nor OFFLINE (4.2). -/
theorem StationState.served_eq_false {st : StationState} : st.served = false ↔ st = .disabled ∨ st = .offline := by
  cases st <;> simp [StationState.served]

/-- Settles O12: the tests of POST, in their order. -/
theorem postRefusesByTheFirstFailingTest : Obligations.PostRefusesByTheFirstFailingTest := by
  intro s n r ready arg tests
  have refusal : s.postRefusal n = some r := by
    rw [← tests]
    simp only [State.postRefusal, Bool.not_eq_true', StationState.served_eq_false, not_and_or, Nat.not_le]
  have verdict : s.commandPost = .fails r := by
    rw [State.commandPost, withOperand_slot arg, State.post, refusal]
  exact congrArg Host.Outcome.next (takeCommand_fails ready verdict)

/-- Settles O11: with every test passed, POST queues the slot. -/
theorem postQueuesALegalRecord : Obligations.PostQueuesALegalRecord := by
  intro s n a ready arg owned station ha priority retryLimit requestLength served quarantine
  have address : (s.slot n).address = a := Fin.ext (by simp [Slot.address, station])
  have positive : 1 ≤ a.val := Nat.pos_of_ne_zero fun e => ha (Fin.ext e)
  have passed : s.postRefusal n = none := by
    have live : (s.station a).state.served = true := by rcases served with e | e <;> simp [e, StationState.served]
    have tag : ¬ (s.station a).quarantine.getLsbD n.val = true := by simp only [quarantine]; decide
    rw [State.postRefusal]
    simp only [owned, station, address, live, tag, Nat.not_lt.2 priority, Nat.not_lt.2 retryLimit,
      Nat.not_lt.2 requestLength, positive, Nat.le_of_lt_succ a.isLt]
    simp
  have verdict : s.commandPost = .done s.slotTable.postCounter (s.enqueue n) := by
    rw [State.commandPost, withOperand_slot arg, State.post, passed]
  refine ⟨_, congrArg Host.Outcome.next (takeCommand_done ready verdict), rfl, ?_, fun m hm => ?_, rfl⟩
  · exact (s.enqueue_slot n n).trans (if_pos rfl)
  · exact (s.enqueue_slot n m).trans (if_neg hm)

/-! ## RELEASE and RETIRE (R35, R46) -/

/-- Settles O13. -/
theorem releaseFreesAnOwnedSlot : Obligations.ReleaseFreesAnOwnedSlot := by
  intro s n ready arg
  have command : s.commandRelease = s.release n := withOperand_slot arg _
  constructor
  · intro owned
    exact takeCommand_modifySlot ready (command.trans (if_pos owned))
  · intro other
    exact congrArg Host.Outcome.next (takeCommand_fails ready (command.trans (if_neg other)))

/-- Settles O14: the departure from the completion queue is that of `CompletionUnit.leave`. -/
theorem retireFreesADoneSlot : Obligations.RetireFreesADoneSlot := by
  intro s n ready arg
  have command : s.commandRetire = s.retire n := withOperand_slot arg _
  constructor
  · intro done
    refine ⟨_, congrArg Host.Outcome.next (takeCommand_done ready (command.trans (if_pos done))), ?_,
      ⟨rfl, fun _ hm => s.modifySlot_slot_ne n (fun r => { r with state := .free }) hm⟩,
      s.modifySlot_slot_self n fun r => { r with state := .free }⟩
    simp only [State.onCompletion, CompletionUnit.leave_eq]
    rfl
  · intro other
    exact congrArg Host.Outcome.next (takeCommand_fails ready (command.trans (if_neg other)))

/-! ## CANCEL (R43 to R45) -/

theorem State.cancel_idle (h : (s.slot n).state = .free ∨ (s.slot n).state = .owned ∨ (s.slot n).state = .done) :
    s.cancel n = .fails .wrongState := by
  rcases h with e | e | e <;> rw [State.cancel, e]

theorem State.cancel_queued (h : (s.slot n).state = .queued) :
    s.cancel n = .done 6 (s.completeSlot n .cancelled 0 []) := by
  rw [State.cancel, h]; rfl

theorem State.cancel_sending (h : (s.slot n).state = .sending) :
    s.cancel n = .done 3 (s.modifySlot n fun r => { r with hostCancel := true }) := by
  rw [State.cancel, h]; rfl

theorem State.cancel_waiting (h : (s.slot n).state = .waiting) : s.cancel n = .done 5 (s.cancelWaiting n) := by
  rw [State.cancel, h]; rfl

theorem State.cancel_inFlight (h : (s.slot n).state = .cancelling) (flag : (s.slot n).cancelInFlight = true) :
    s.cancel n = .fails .busy := by
  rw [State.cancel, h]; exact if_pos flag

theorem State.cancel_running (h : (s.slot n).state = .cancelling) (flag : (s.slot n).cancelInFlight = false)
    (line : s.lineEngine.state = .running) : s.cancel n = .fails .already := by
  rw [State.cancel, h]; exact (if_neg (by simp [flag])).trans (if_pos line)

theorem State.cancel_abandons (h : (s.slot n).state = .cancelling) (flag : (s.slot n).cancelInFlight = false)
    (line : s.lineEngine.state ≠ .running) : s.cancel n = .done 6 (s.completeSlot n .abandoned 0 []) := by
  rw [State.cancel, h]; exact (if_neg (by simp [flag])).trans (if_neg line)

section

variable (ready : Ready s) (arg : s.argLow = n.val)
include ready arg

/-- A CANCEL that fails leaves all but the Host Port. -/
theorem execCancel_fails {r : Result} (hv : s.cancel n = .fails r) :
    exec .cancel s = .next { s with hostPort := s.denied 5 r } :=
  congrArg Host.Outcome.next (takeCommand_fails ready ((withOperand_slot arg _).trans hv))

/-- A CANCEL that is DONE leaves the state of its verdict, but for the Host Port. -/
theorem execCancel_done {v : Word} {t : State} (hv : s.cancel n = .done v t) :
    exec .cancel s =
      .next { t with hostPort := { t.hostPort with command := 5, result := .done, commandArg := v } } :=
  congrArg Host.Outcome.next (takeCommand_done ready ((withOperand_slot arg _).trans hv))

/-- The completion of a CANCEL, with the record's end and the lists and the completion queue as they then stand. -/
theorem execCancel_completes {status : Status} (hv : s.cancel n = .done 6 (s.completeSlot n status 0 [])) :
    ∃ t, exec .cancel s = .next t ∧
      t = { s with
            slotTable := t.slotTable, hostPort := s.answered 5 6,
            dispatchQueue := s.dispatchQueue.filter fun p => p.slot ≠ some n,
            cancelList := s.cancelList.filter (· ≠ n),
            stationTable := (s.completeSlot n status 0 []).stationTable,
            completionUnit := s.completionUnit.joined [n] } ∧
      OnlySlot n s t ∧ t.slot n = (s.slot n).ended status 0 s.lineEngine.clock := by
  refine ⟨_, execCancel_done ready arg hv, ?_, ⟨rfl, fun _ hm => s.completeSlot_slot_ne n status 0 [] hm⟩,
    (s.completeSlot_slot_self n status 0 []).trans (Slot.finished_nil status 0 _ _)⟩
  rw [s.completeSlot_eq, s.finishSlot_frame]
  rfl

end

/-- A slot whose tag no station holds leaves the Station Table as it stands, but where it is ABANDONED (R28). -/
theorem State.completeSlot_stationTable (s : State) (n : SlotNo) {status : Status} (octet : Octet)
    (payload : List Octet) (held : (s.slot n).state.held = false) (notAbandoned : status ≠ .abandoned) :
    (s.completeSlot n status octet payload).stationTable = s.stationTable := by
  have same :
      (s.station (s.slot n).address).release n (s.slot n).state.held status = s.station (s.slot n).address := by
    simp [Station.release, held, notAbandoned]
  have claims : (s.completeSlot n status octet payload).stationTable =
      (s.modifyStation (s.slot n).address (Station.release n (s.slot n).state.held status)).stationTable := rfl
  rw [claims, State.modifyStation_id same]

/-- Settles O15, state by state. -/
theorem cancelActsByTheSlotsState : Obligations.CancelActsByTheSlotsState := by
  intro s n ready arg
  refine ⟨?idle, ?queued, ?sending, ?waiting, ?inFlight, ?running, ?abandoned⟩
  case idle => exact fun h => execCancel_fails ready arg (State.cancel_idle h)
  case queued =>
    intro h
    obtain ⟨t, ht, frame, only, own⟩ := execCancel_completes ready arg (State.cancel_queued h)
    rw [s.completeSlot_stationTable n 0 [] (by simp [h, SlotState.held]) (by decide)] at frame
    exact ⟨t, ht, frame, only, own⟩
  case sending =>
    intro h
    have command : s.commandCancel = s.cancel n := withOperand_slot arg _
    exact takeCommand_modifySlot ready (command.trans (State.cancel_sending h))
  case waiting =>
    intro h
    exact ⟨_, execCancel_done ready arg (State.cancel_waiting h), rfl,
      ⟨rfl, fun _ hm => s.modifySlot_slot_ne n (fun r => { r with state := .cancelling, hostCancel := true }) hm⟩,
      s.modifySlot_slot_self n fun r => { r with state := .cancelling, hostCancel := true }⟩
  case inFlight => exact fun h flag => execCancel_fails ready arg (State.cancel_inFlight h flag)
  case running => exact fun h flag line => execCancel_fails ready arg (State.cancel_running h flag line)
  case abandoned =>
    intro a h flag line station
    have address : (s.slot n).address = a := Fin.ext (by simp [Slot.address, station])
    obtain ⟨t, ht, frame, only, own⟩ := execCancel_completes ready arg (State.cancel_abandons h flag line)
    have table : t.stationTable = (s.completeSlot n .abandoned 0 []).stationTable := by rw [frame]
    have entry : ∀ b, t.station b = (s.completeSlot n .abandoned 0 []).station b := fun b =>
      congrArg (fun x : StationTable => x.entries[b]) table
    refine ⟨t, ht, ?_, only, own, ⟨?_, fun b hb => ?_⟩, ?_⟩
    · rw [table]; exact frame
    · rw [table]; rfl
    · rw [entry, s.completeSlot_station, if_neg (by simpa [address] using hb)]
    · rw [entry, s.completeSlot_station, if_pos address.symm]
      simp [Station.release, h, SlotState.held, memberBit]

/-! ## The operand and the sweep (R47) -/

/-- Settles O16. -/
theorem slotCommandsTestTheirOperand : Obligations.SlotCommandsTestTheirOperand := by
  intro s c code awake
  constructor
  · intro idle high hc
    have bad : ∀ (code : Word) (body : State → SlotNo → Verdict),
        s.takeCommand code (fun s => withOperand (slotOperand s.hostPort.commandArg) (body s)) =
          { s with hostPort := s.denied code .badOperand } := fun _ body =>
      takeCommand_fails ⟨awake, idle⟩ (withOperand_slot_bad high (body s))
    simp only [List.mem_cons, Prod.mk.injEq, List.not_mem_nil, or_false] at hc
    obtain ⟨rfl, rfl⟩ | ⟨rfl, rfl⟩ | ⟨rfl, rfl⟩ | ⟨rfl, rfl⟩ := hc
    · exact congrArg Host.Outcome.next (bad 2 State.post)
    · exact congrArg Host.Outcome.next (bad 3 State.release)
    · exact congrArg Host.Outcome.next (bad 4 State.retire)
    · exact congrArg Host.Outcome.next (bad 5 State.cancel)
  · intro sweeping hc
    simp only [List.mem_cons, Prod.mk.injEq, List.not_mem_nil, or_false] at hc
    obtain ⟨rfl, rfl⟩ | ⟨rfl, rfl⟩ | ⟨rfl, rfl⟩ | ⟨rfl, rfl⟩ | ⟨rfl, rfl⟩ := hc <;>
      exact congrArg Host.Outcome.next (takeCommand_sweep awake sweeping _ _)

end Sys2Proof.Machine
end

-- ==== The station commands (04) ====
section
/-! SUPPORT. The commands STATION ENABLE, STATION DISABLE, REVIVE and UNQUARANTINE: what each comes to with a station
operand, and the obligations about them (R76, R77, R86, R88). -/

namespace Sys2Proof.Machine

variable {s : State} {a : Address}

/-! ## The operands -/

/-- A station operand 1–31 is handed to the command. -/
theorem withOperand_station (h0 : a ≠ 0) (h : s.argLow = a.val) (body : Address → Verdict) :
    withOperand (stationOperand s.hostPort.commandArg) body = body a := by
  rw [stationOperand_eq h0 h]; rfl

/-- A tag operand 0–31 is handed to the command. -/
theorem withOperand_tag {tag : SlotNo} (h : s.argHigh = tag.val) (body : SlotNo → Verdict) :
    withOperand (tagOperand s.hostPort.commandArg) body = body tag := by
  rw [tagOperand_eq h]; rfl

/-! ## A command that changes one station entry alone -/

/-- A command that comes to DONE with one entry changed leaves all but that entry and the Host Port. -/
theorem takeCommand_modifyStation (h : Ready s) {code v : Word} {body : State → Verdict} {g : Station → Station}
    (hb : body s = .done v (s.modifyStation a g)) :
    ∃ t, Host.Outcome.next (φ := Fault) (ρ := Refusal) (s.takeCommand code body) = .next t ∧
      t = { s with stationTable := t.stationTable, hostPort := s.answered code v } ∧
      OnlyStation a s t ∧ t.station a = g (s.station a) := by
  rw [takeCommand_done h hb]
  exact ⟨_, rfl, rfl, ⟨rfl, fun _ hne => s.modifyStation_station_ne a g hne⟩, s.modifyStation_station_self a g⟩

/-! ## STATION ENABLE and REVIVE (R76, R86) -/

/-- Settles O18: each command acts in the one state it leaves, and refuses every other. -/
theorem stationEnableAndReviveMakeUnknown : Obligations.StationEnableAndReviveMakeUnknown := by
  intro s a ready ha arg
  have enable : s.commandStationEnable = s.stationEnable a := withOperand_station ha arg _
  have revive : s.commandRevive = s.revive a := withOperand_station ha arg _
  refine ⟨?enabled, ?notEnabled, ?revived, ?notRevived⟩
  case enabled => exact fun disabled => takeCommand_modifyStation ready (enable.trans (if_pos disabled))
  case notEnabled =>
    exact fun other => congrArg Host.Outcome.next (takeCommand_fails ready (enable.trans (if_neg other)))
  case revived => exact fun offline => takeCommand_modifyStation ready (revive.trans (if_pos offline))
  case notRevived =>
    exact fun other => congrArg Host.Outcome.next (takeCommand_fails ready (revive.trans (if_neg other)))

/-! ## STATION DISABLE (R77) -/

/-- The states in which a slot keeps its station from being disabled. -/
theorem SlotState.live_eq_true {st : SlotState} :
    st.live = true ↔ st = .queued ∨ st = .sending ∨ st = .waiting ∨ st = .cancelling := by
  cases st <;> simp [SlotState.live]

/-- The states in which it does not. -/
theorem SlotState.live_eq_false {st : SlotState} : st.live = false ↔ st = .free ∨ st = .owned ∨ st = .done := by
  cases st <;> simp [SlotState.live]

/-- The search of the slots finds a live one that names the station exactly when there is one. -/
theorem State.hasLiveSlot_eq_true :
    s.hasLiveSlot a = true ↔ ∃ n, (s.slot n).station.toNat = a.val ∧ (s.slot n).state.live = true := by
  simp [State.hasLiveSlot, allSlots, Slot.names]

theorem State.stationDisable_disabled (h : (s.station a).state = .disabled) :
    s.stationDisable a = .fails .wrongState := if_pos h

theorem State.stationDisable_busy (h : (s.station a).state ≠ .disabled) (live : s.hasLiveSlot a = true) :
    s.stationDisable a = .fails .busy := (if_neg h).trans (if_pos live)

theorem State.stationDisable_done (h : (s.station a).state ≠ .disabled) (live : ¬ s.hasLiveSlot a = true) :
    s.stationDisable a = .done 0 (s.modifyStation a Station.disable) := (if_neg h).trans (if_neg live)

/-- Settles O19: the tests in their order, the second one by `State.hasLiveSlot_eq_true`. -/
theorem stationDisableNeedsNoLiveSlot : Obligations.StationDisableNeedsNoLiveSlot := by
  intro s a ready ha arg
  have command : s.commandStationDisable = s.stationDisable a := withOperand_station ha arg _
  refine ⟨?wrongState, ?busy, ?disabled⟩
  case wrongState =>
    exact fun h => congrArg Host.Outcome.next
      (takeCommand_fails ready (command.trans (State.stationDisable_disabled h)))
  case busy =>
    rintro h ⟨n, names, state⟩
    have live : s.hasLiveSlot a = true := State.hasLiveSlot_eq_true.2 ⟨n, names, SlotState.live_eq_true.2 state⟩
    exact congrArg Host.Outcome.next (takeCommand_fails ready (command.trans (State.stationDisable_busy h live)))
  case disabled =>
    intro h idle
    have live : ¬ s.hasLiveSlot a = true := by
      rw [State.hasLiveSlot_eq_true]
      rintro ⟨n, names, state⟩
      exact Bool.false_ne_true ((SlotState.live_eq_false.2 (idle n names)).symm.trans state)
    exact takeCommand_modifyStation ready (command.trans (State.stationDisable_done h live))

/-! ## UNQUARANTINE (R88) -/

/-- A set from which one member is taken holds every other member it held. -/
theorem getLsbD_and_not_memberBit (q : BitVec 32) (tag m : SlotNo) :
    (q &&& ~~~memberBit tag).getLsbD m.val = (decide (m ≠ tag) && q.getLsbD m.val) := by
  by_cases h : m = tag
  · simp [h, memberBit]
  · have apart : ¬ m.val = tag.val := fun e => h (Fin.ext e)
    simp [h, apart, memberBit]

/-- Settles O20: the entry's state plays no part. -/
theorem unquarantineRemovesATag : Obligations.UnquarantineRemovesATag := by
  intro s a tag ready ha arg argTag
  have command : s.commandUnquarantine = s.unquarantine a tag :=
    (withOperand_station ha arg _).trans (withOperand_tag argTag _)
  constructor
  · intro member
    obtain ⟨t, ht, frame, only, own⟩ :=
      takeCommand_modifyStation (code := 9) ready (command.trans (if_pos member))
    refine ⟨t, ht, frame, only, by rw [own], fun m => ?_⟩
    rw [own]
    exact getLsbD_and_not_memberBit (s.station a).quarantine tag m
  · intro absent
    exact congrArg Host.Outcome.next
      (takeCommand_fails ready (command.trans (if_neg (Bool.eq_false_iff.1 absent))))

end Sys2Proof.Machine
end

-- ==== The Classifier's decision (06) ====
section
/-! SUPPORT. The entry's tests as propositions, and the search for the first true chain by one induction over the table's
suffixes: the flag that the search carries says whether the running chain is true so far. At the end the obligation about
the decision (R114 to R119). -/

namespace Sys2Proof.Machine

/-! ## One entry (R114 to R116) -/

section
variable {e : MatchEntry} {v : EventView}

theorem MatchEntry.stationTest_eq_true :
    e.stationTest v = true ↔ e.stationFilter.val = 0 ∨ e.stationFilter.val = v.station.val := by
  simp [MatchEntry.stationTest]

theorem MatchEntry.pathTest_eq_true :
    e.pathTest v = true ↔ e.path = .any ∨ e.path = .directOnly ∧ v.relayed = false ∨
      e.path = .relayedOnly ∧ v.relayed = true := by
  unfold MatchEntry.pathTest
  cases e.path <;> simp

/-- A mask selects no octet exactly when it is 0: a bit set in it would select one. -/
theorem MatchEntry.positions_eq_nil : e.positions = [] ↔ e.byteMask = 0 := by
  simp only [MatchEntry.positions, List.map_eq_nil_iff, List.filter_eq_nil_iff, List.mem_range]
  constructor
  · intro clear
    exact BitVec.eq_of_getLsbD_eq fun j hj => by simpa using clear j hj
  · intro h
    simp [h]

theorem MatchEntry.signatureTest_eq_true :
    e.signatureTest v = true ↔ e.byteMask = 0 ∨
      (∀ i ∈ e.positions, i < v.payload.length) ∧
        check (e.positions.map fun i => v.payload.getD i 0) = e.signature := by
  rw [← MatchEntry.positions_eq_nil]
  simp only [MatchEntry.signatureTest, Bool.or_eq_true, Bool.and_eq_true, List.isEmpty_iff, List.all_eq_true,
    decide_eq_true_eq]

/-- Turned over by invert: the tests decide as they stand exactly when invert is clear. -/
theorem MatchEntry.result_eq_true :
    e.result v = true ↔ e.enabled = true ∧
      (e.invert = false ↔ e.stationTest v = true ∧ e.pathTest v = true ∧ e.signatureTest v = true) := by
  rw [← Bool.and_eq_true, ← Bool.and_eq_true, ← Bool.and_assoc, MatchEntry.result, Bool.and_eq_true]
  generalize (e.stationTest v && e.pathTest v && e.signatureTest v) = tests
  cases e.invert <;> simp

end

/-! ## Chains (R117, R118) -/

section
variable {n : Nat} (t : Vector MatchEntry n) (v : EventView)

/-- Entry `j` and every entry before it in its chain is true. -/
def RunTrue (j : Fin n) : Prop :=
  ∀ m : Fin n, m ≤ j → (∀ i : Fin n, m < i → i ≤ j → t[i].joinPrevious = true) → t[m].result v = true

/-- The entry after `j`, if there is one, begins a new chain. -/
def EndsChain (j : Fin n) : Prop :=
  ∀ i : Fin n, i.val = j.val + 1 → t[i].joinPrevious = false

/-- A chain whose entries are all true, named by its last entry. -/
def TrueChain (j : Fin n) : Prop := EndsChain t j ∧ RunTrue t v j

variable {t v}

/-- An entry other than the first has one before it. -/
theorem exists_pred {i : Fin n} (pos : 0 < i.val) : ∃ k : Fin n, k.val + 1 = i.val :=
  ⟨⟨i.val - 1, by omega⟩, Nat.sub_add_cancel pos⟩

/-- The run of an entry is the entry and, if it is joined, the run of the entry before it. -/
theorem runTrue_iff {j : Fin n} :
    RunTrue t v j ↔
      (t[j].joinPrevious = true → ∀ k : Fin n, k.val + 1 = j.val → RunTrue t v k) ∧ t[j].result v = true := by
  constructor
  · refine fun run => ⟨fun joined k hk m hm between => ?_, run j (le_refl j) fun i lo hi => absurd lo hi.not_gt⟩
    refine run m (by omega) fun i lo hi => ?_
    rcases eq_or_ne i j with rfl | apart
    · exact joined
    · exact between i lo (by omega)
  · rintro ⟨before, own⟩ m hm between
    rcases eq_or_ne m j with rfl | apart
    · exact own
    · obtain ⟨k, hk⟩ : ∃ k : Fin n, k.val + 1 = j.val := exists_pred (by omega)
      exact before (between j (by omega) (le_refl j)) k hk m (by omega) fun i lo hi => between i lo (by omega)

/-! ## The search (R119) -/

/-- `ok` says whether the entries of the running chain before entry `i` are true. -/
def RunBefore (t : Vector MatchEntry n) (v : EventView) (i : Nat) (ok : Bool) : Prop :=
  ∀ k : Fin n, k.val + 1 = i → (ok = true ↔ RunTrue t v k)

/-- What a search from entry `i` on has to answer: the first true chain there, or none if there is none. -/
inductive SearchAnswers (t : Vector MatchEntry n) (v : EventView) (i : Nat) : Option (Nat × MatchEntry) → Prop
  | found (j : Fin n) (chain : TrueChain t v j) (first : ∀ m : Fin n, i ≤ m.val → m < j → ¬ TrueChain t v m) :
      SearchAnswers t v i (some (j.val, t[j]))
  | absent (nowhere : ∀ m : Fin n, i ≤ m.val → ¬ TrueChain t v m) : SearchAnswers t v i none

/-- A search passes over an entry that ends no true chain. -/
theorem SearchAnswers.skip {i : Fin n} {r : Option (Nat × MatchEntry)} (h : SearchAnswers t v (i.val + 1) r)
    (no : ¬ TrueChain t v i) : SearchAnswers t v i.val r := by
  have later : ∀ m : Fin n, i.val ≤ m.val → TrueChain t v m → i.val + 1 ≤ m.val := fun m hm chain =>
    Nat.lt_of_le_of_ne hm fun same => no (Fin.ext same ▸ chain)
  cases h with
  | found j chain first => exact .found j chain fun m hm lt c => first m (later m hm c) lt c
  | absent nowhere => exact .absent fun m hm c => nowhere m (later m hm c) c

/-- The flag that the search hands on past entry `i`. -/
def runFlag (t : Vector MatchEntry n) (v : EventView) (i : Fin n) (ok : Bool) : Bool :=
  (i.val = 0 || !t[i].joinPrevious || ok) && t[i].result v

theorem runFlag_eq_true {i : Fin n} {ok : Bool} (h : RunBefore t v i.val ok) :
    runFlag t v i ok = true ↔ RunTrue t v i := by
  have before : (i.val = 0 || !t[i].joinPrevious || ok) = true ↔
      (t[i].joinPrevious = true → ∀ k : Fin n, k.val + 1 = i.val → RunTrue t v k) := by
    rcases Nat.eq_zero_or_pos i.val with first | pos
    · simp [first]
    · obtain ⟨k, hk⟩ := exists_pred pos
      have only : (∀ l : Fin n, l.val + 1 = i.val → RunTrue t v l) ↔ RunTrue t v k :=
        ⟨fun all => all k hk, fun one l hl => (Fin.ext (by omega) : k = l) ▸ one⟩
      rw [only, ← h k hk]
      cases t[i].joinPrevious <;> simp [pos.ne']
  rw [runTrue_iff, runFlag, Bool.and_eq_true, before]

/-- The flag handed on is the one that the search from the next entry needs. -/
theorem RunBefore.next {i : Fin n} {ok : Bool} (h : RunBefore t v i.val ok) :
    RunBefore t v (i.val + 1) (runFlag t v i ok) := by
  intro k hk
  obtain rfl : k = i := Fin.ext (Nat.succ.inj hk)
  exact runFlag_eq_true h

/-- The search at one entry: the entry decides when the next one, if any, is not joined to it and the flag holds. -/
theorem firstTrueChain_cons {i : Nat} {ok : Bool} {e : MatchEntry} {rest : List MatchEntry} :
    firstTrueChain v i ok (e :: rest) =
      if (∀ next ∈ rest.head?, next.joinPrevious = false) ∧
          ((i = 0 || !e.joinPrevious || ok) && e.result v) = true then some (i, e)
      else firstTrueChain v (i + 1) ((i = 0 || !e.joinPrevious || ok) && e.result v) rest := by
  cases rest <;> simp [firstTrueChain]

/-- Seen from the search, the entry after `j` is the head of what is left of the table. -/
theorem endsChain_iff {j : Fin n} :
    EndsChain t j ↔ ∀ next ∈ (t.toList.drop (j.val + 1)).head?, next.joinPrevious = false := by
  rw [List.head?_drop]
  constructor
  · intro ends next found
    obtain ⟨inside, rfl⟩ := List.getElem?_eq_some_iff.1 found
    simpa using ends ⟨j.val + 1, by simpa using inside⟩ rfl
  · intro h i hi
    exact h t[i] (List.getElem?_eq_some_iff.2 ⟨by simp; omega, by simp [← hi]⟩)

/-- One entry of the search. -/
theorem firstTrueChain_drop [DecidablePred (TrueChain t v)] {i : Fin n} {ok : Bool} (h : RunBefore t v i.val ok) :
    firstTrueChain v i.val ok (t.toList.drop i.val) =
      if TrueChain t v i then some (i.val, t[i])
      else firstTrueChain v (i.val + 1) (runFlag t v i ok) (t.toList.drop (i.val + 1)) := by
  have cons : t.toList.drop i.val = t[i] :: t.toList.drop (i.val + 1) := by
    rw [List.drop_eq_getElem_cons (by simp)]; simp
  rw [cons, firstTrueChain_cons]
  exact if_congr (and_congr endsChain_iff.symm (runFlag_eq_true h)) rfl rfl

/-- The search's specification, by induction on the entries that are left. -/
theorem firstTrueChain_answers (i : Nat) (ok : Bool) (h : RunBefore t v i ok) :
    SearchAnswers t v i (firstTrueChain v i ok (t.toList.drop i)) := by
  classical
  by_cases inside : i < n
  · rw [firstTrueChain_drop (i := ⟨i, inside⟩) h]
    split
    case isTrue chain => exact .found ⟨i, inside⟩ chain fun m hm lt => absurd lt (not_lt.2 hm)
    case isFalse no => exact (firstTrueChain_answers (i + 1) _ (RunBefore.next (i := ⟨i, inside⟩) h)).skip no
  · rw [List.drop_eq_nil_of_le (by simpa using inside)]
    exact .absent fun m hm => absurd (hm.trans_lt m.isLt) inside
termination_by n - i

end

/-! ## The decision (R118, R119) -/

section
variable {c : Classifier} {v : EventView}

theorem Classifier.search_answers (c : Classifier) (v : EventView) :
    SearchAnswers c.table v 0 (firstTrueChain v 0 true c.table.toList) :=
  firstTrueChain_answers 0 true fun _ hk => absurd hk (Nat.succ_ne_zero _)

theorem Classifier.decide_firstTrueChain {j : Fin 8} (on : c.enable = true) (chain : TrueChain c.table v j)
    (first : ∀ i, i < j → ¬ TrueChain c.table v i) : c.decide v = chainDecision j.val c.table[j] := by
  rw [Classifier.decide, if_pos on]
  have answer := c.search_answers v
  generalize firstTrueChain v 0 true c.table.toList = r at answer ⊢
  cases answer with
  | found k chain' first' =>
    obtain rfl : k = j := le_antisymm (not_lt.1 fun lt => first' j (Nat.zero_le _) lt chain)
      (not_lt.1 fun lt => first k lt chain')
    rfl
  | absent nowhere => exact absurd chain (nowhere j (Nat.zero_le _))

theorem Classifier.decide_default (h : c.enable = false ∨ ∀ j, ¬ TrueChain c.table v j) :
    c.decide v = c.defaultDecision := by
  rw [Classifier.decide]
  split
  case isFalse => rfl
  case isTrue on =>
    have nowhere := h.resolve_left (by simp [on])
    have answer := c.search_answers v
    generalize firstTrueChain v 0 true c.table.toList = r at answer ⊢
    cases answer with
    | found k chain => exact absurd chain (nowhere k)
    | absent => rfl

end

/-- Settles O54: an entry's result is the stated condition by the tests' own lemmas, so that the stated chains are those
of `TrueChain`; then the decision is that of the search. -/
theorem theFirstTrueChainDecides : Obligations.TheFirstTrueChainDecides := by
  intro c v isTrue isTrueChain
  have entry : ∀ i, isTrue i ↔ c.table[i].result v = true := fun i => by
    rw [MatchEntry.result_eq_true, MatchEntry.stationTest_eq_true, MatchEntry.pathTest_eq_true,
      MatchEntry.signatureTest_eq_true]
    rfl
  have chains : ∀ j, isTrueChain j ↔ TrueChain c.table v j := fun j =>
    and_congr Iff.rfl (forall_congr' fun m => imp_congr Iff.rfl (imp_congr Iff.rfl (entry m)))
  refine ⟨fun j on chain first => ?_, fun h => ?_⟩
  · exact Classifier.decide_firstTrueChain on ((chains j).1 chain) fun i lt c' => first i lt ((chains i).2 c')
  · exact Classifier.decide_default (h.imp_right fun nowhere j c' => nowhere j ((chains j).2 c'))

end Sys2Proof.Machine
end

-- ==== EVENT FREE (07) ====
section
/-! SUPPORT. The command EVENT FREE: what it comes to with a queue operand, what the partition of the 24 records says of
the record at a queue's head, and the obligation about the command (R124, R131). -/

namespace Sys2Proof.Machine

variable {s : State} {q : EventQueue} {r : RecordNo} {rest : List RecordNo}

/-! ## The operand -/

/-- A queue operand that names a queue is handed to the command. -/
theorem withOperand_queue (h : queueOperand s.hostPort.commandArg = some q) (body : EventQueue → Verdict) :
    withOperand (queueOperand s.hostPort.commandArg) body = body q := by
  rw [h]; rfl

/-- A queue operand above 1 gives BAD_OPERAND, whatever the command. -/
theorem withOperand_queue_bad (h : 1 < s.argLow) (body : EventQueue → Verdict) :
    withOperand (queueOperand s.hostPort.commandArg) body = .fails .badOperand := by
  rw [queueOperand_none h]; rfl

/-! ## The Event Pool's queues (R123, R124) -/

@[simp] theorem EventPool.setQueue_free (q : EventQueue) (l : List RecordNo) (p : EventPool) :
    (p.setQueue q l).free = p.free := by
  cases q <;> rfl

/-- The records in partition are all different. -/
theorem PoolPartition.nodup (h : PoolPartition s) :
    (s.eventPool.free ++ s.eventPool.queueA ++ s.eventPool.queueB ++ s.reserved.toList).Nodup :=
  h.nodup_iff.2 (List.nodup_finRange 24)

theorem PoolPartition.free_nodup (h : PoolPartition s) : s.eventPool.free.Nodup :=
  h.nodup.of_append_left.of_append_left.of_append_left

/-- A record in a queue is not free. -/
theorem PoolPartition.not_mem_free (h : PoolPartition s) (queued : r ∈ s.eventPool.queueOf q) :
    r ∉ s.eventPool.free := by
  have lists := h.nodup.of_append_left
  cases q with
  | a => exact fun free => List.disjoint_of_nodup_append lists.of_append_left free queued
  | b => exact fun free => List.disjoint_of_nodup_append lists (List.mem_append_left _ free) queued

/-! ## EVENT FREE (R131) -/

theorem State.eventFree_cons (h : s.eventPool.queueOf q = r :: rest) :
    s.eventFree q =
      .done (BitVec.ofNat 16 r.val) (s.onPool fun p => (p.setQueue q rest).giveFree r) := by
  simp [State.eventFree, h]

theorem State.eventFree_nil (h : s.eventPool.queueOf q = []) : s.eventFree q = .fails .nothing := by
  simp [State.eventFree, h]

/-- EVENT FREE with its operand naming a queue that holds a record: the head leaves the queue, and the free list, the
only other field of the pool to change, gains that record and no other. -/
theorem exec_eventFree_cons (ready : Ready s) (pool : PoolPartition s)
    (arg : queueOperand s.hostPort.commandArg = some q) (head : s.eventPool.queueOf q = r :: rest) :
    ∃ t, exec .eventFree s = .next t ∧
      t = { s with
            eventPool := { s.eventPool.setQueue q rest with free := t.eventPool.free },
            hostPort := s.answered 10 (BitVec.ofNat 16 r.val) } ∧
      (∀ x, x ∈ t.eventPool.free ↔ x = r ∨ x ∈ s.eventPool.free) ∧
      t.eventPool.free.length = s.eventPool.free.length + 1 := by
  have verdict := (withOperand_queue arg s.eventFree).trans (State.eventFree_cons head)
  have apart : r ∉ s.eventPool.free := pool.not_mem_free (q := q) (by simp [head])
  have grown : ((s.eventPool.setQueue q rest).giveFree r).free.Perm (r :: s.eventPool.free) := by
    simpa using EventPool.giveFree_perm (p := s.eventPool.setQueue q rest) (by simpa using pool.free_nodup)
      (by simpa using apart)
  refine ⟨_, congrArg Host.Outcome.next (takeCommand_done ready verdict), rfl, fun x => ?_, grown.length_eq⟩
  exact grown.mem_iff.trans List.mem_cons

/-- EVENT FREE with its operand naming an empty queue. -/
theorem exec_eventFree_nil (ready : Ready s) (arg : queueOperand s.hostPort.commandArg = some q)
    (empty : s.eventPool.queueOf q = []) :
    exec .eventFree s = .next { s with hostPort := s.denied 10 .nothing } :=
  congrArg Host.Outcome.next
    (takeCommand_fails ready ((withOperand_queue arg _).trans (State.eventFree_nil empty)))

/-- Settles O21: both queues are one argument, by `exec_eventFree_cons` and `exec_eventFree_nil`; the partition of the
records keeps the head off the free list, so that the free count rises. -/
theorem eventFreeFreesTheHead : Obligations.EventFreeFreesTheHead := by
  intro s awake
  refine ⟨?headOfA, ?headOfB, ?empty, ?badOperand, ?busy⟩
  case headOfA =>
    exact fun r rest idle pool arg head => exec_eventFree_cons ⟨awake, idle⟩ pool (queueOperand_zero arg) head
  case headOfB =>
    exact fun r rest idle pool arg head => exec_eventFree_cons ⟨awake, idle⟩ pool (queueOperand_one arg) head
  case empty =>
    rintro idle (⟨arg, empty⟩ | ⟨arg, empty⟩)
    · exact exec_eventFree_nil ⟨awake, idle⟩ (queueOperand_zero arg) empty
    · exact exec_eventFree_nil ⟨awake, idle⟩ (queueOperand_one arg) empty
  case badOperand =>
    exact fun idle high => congrArg Host.Outcome.next
      (takeCommand_fails ⟨awake, idle⟩ (withOperand_queue_bad high _))
  case busy =>
    exact fun sweeping => congrArg Host.Outcome.next (takeCommand_sweep awake sweeping _ _)

end Sys2Proof.Machine
end

-- ==== What leaves the line and its cause as they stand ====
section
/-! SUPPORT. The LINE cause in the Completion Unit, and the operations that move neither the line nor LINE: the effects
of an outcome (R66), the eleven commands, the choice, the clock, the window and the start of the sweep. -/

namespace Sys2Proof.Machine

/-! ## LINE in the Completion Unit (R155 to R158) -/

namespace CompletionUnit

variable (u : CompletionUnit)

@[simp] theorem join_line (slots : List SlotNo) : (u.join slots).causes.line = u.causes.line := by
  by_cases h : slots = []
  · simp [h]
  · rw [u.join_eq_joined h]

@[simp] theorem clearComplete_line : u.clearComplete.causes.line = u.causes.line := by
  rw [u.clearComplete_eq]
  split
  · split
    · rfl
    · split <;> rfl
  · rfl

@[simp] theorem expire_line : u.expire.causes.line = u.causes.line := by
  rw [u.expire_eq]
  split <;> rfl

@[simp] theorem setCoalesce_line (threshold holdoff : Nat) :
    (u.setCoalesce threshold holdoff).causes.line = u.causes.line := by
  rw [u.setCoalesce_eq]
  split <;> rfl

/-- A write of CAUSE clears LINE by a one at its position (R158). -/
theorem writeCause_line (w : Word) : (u.writeCause w).causes.line = (u.causes.line && !w.getLsbD 5) := by
  have cleared : (if w.getLsbD 0 then u.clearComplete else u).causes.line = u.causes.line := by
    split
    · exact u.clearComplete_line
    · rfl
  exact congrArg (· && !w.getLsbD 5) cleared

end CompletionUnit

/-! ## The line and LINE stand -/

/-- The line is in the state it was in, and LINE is latched if it was. -/
structure LineStands (s t : State) : Prop where
  state : t.lineEngine.state = s.lineEngine.state
  cause : t.completionUnit.causes.line = s.completionUnit.causes.line

namespace LineStands

variable {s t u : State}

theorem refl (s : State) : LineStands s s := ⟨rfl, rfl⟩

theorem trans (h : LineStands s t) (k : LineStands t u) : LineStands s u :=
  ⟨k.state.trans h.state, k.cause.trans h.cause⟩

/-- A change of the Completion Unit that leaves LINE. -/
theorem onCompletion (h : LineStands s t) {f : CompletionUnit → CompletionUnit}
    (hf : (f t.completionUnit).causes.line = t.completionUnit.causes.line) : LineStands s (t.onCompletion f) :=
  h.trans ⟨rfl, hf⟩

theorem reportRefusal (h : LineStands s t) : LineStands s t.reportRefusal := h.trans ⟨rfl, rfl⟩

/-! ## The effects of an outcome (R66) -/

theorem completeSlot (h : LineStands s t) (n : SlotNo) (status : Status) (octet : Octet) (payload : List Octet) :
    LineStands s (t.completeSlot n status octet payload) :=
  h.trans ⟨rfl, CompletionUnit.join_line _ _⟩

theorem loseSlots (h : LineStands s t) (a : Address) : LineStands s (t.loseSlots a) := by
  refine h.trans ?_
  rw [t.loseSlots_eq, State.finishAll_frame]
  exact ⟨rfl, CompletionUnit.join_line _ _⟩

theorem acceptSlot (h : LineStands s t) (n : SlotNo) : LineStands s (t.acceptSlot n) := by
  unfold State.acceptSlot
  dsimp only
  split <;> exact h.trans ⟨rfl, rfl⟩

theorem endRequest (h : LineStands s t) (n : SlotNo) (status : Status) (octet : Octet) :
    LineStands s (t.endRequest n status octet) :=
  (h.trans (u := t.onDispatch closeHeldPlace) ⟨rfl, rfl⟩).completeSlot n status octet []

theorem retrySlot (h : LineStands s t) (n : SlotNo) (status : Status) : LineStands s (t.retrySlot n status) := by
  unfold State.retrySlot
  split
  · exact h.trans ⟨rfl, rfl⟩
  · exact h.endRequest n status 0

theorem failRequest (h : LineStands s t) (n : SlotNo) (o : ExchangeOutcome) : LineStands s (t.failRequest n o) := by
  unfold State.failRequest
  split
  · split
    · exact h.retrySlot n .refused
    · exact h.endRequest n .rejected _
  · exact h.trans ⟨rfl, rfl⟩
  all_goals exact h.retrySlot n .noAnswer

theorem requestEffect (h : LineStands s t) (n : SlotNo) (o : ExchangeOutcome) :
    LineStands s (t.requestEffect n o) := by
  have effect : ∀ t1 : State, LineStands s t1 → LineStands s
      (if o = .answer .accept then t1.acceptSlot n
        else if (t1.slot n).hostCancel then t1.endRequest n .cancelled 0 else t1.failRequest n o) := by
    intro t1 h1
    split
    · exact h1.acceptSlot n
    · split
      · exact h1.endRequest n .cancelled 0
      · exact h1.failRequest n o
  refine effect _ ?_
  split
  · exact h
  · exact h.trans ⟨rfl, rfl⟩

theorem cancelUnanswered (h : LineStands s t) (n : SlotNo) : LineStands s (t.cancelUnanswered n) := by
  have counted : LineStands s (t.modifySlot n fun r => { r with cancelAttempts := r.cancelAttempts + 1 }) :=
    h.trans ⟨rfl, rfl⟩
  unfold State.cancelUnanswered
  dsimp only
  split
  · exact counted.completeSlot n .abandoned 0 []
  · exact counted.trans ⟨rfl, rfl⟩

theorem cancelEffect (h : LineStands s t) (n : SlotNo) (o : ExchangeOutcome) :
    LineStands s (t.cancelEffect n o) := by
  have landed : LineStands s (t.modifySlot n fun r => { r with cancelInFlight := false }) := h.trans ⟨rfl, rfl⟩
  unfold State.cancelEffect
  dsimp only
  split
  · exact landed.completeSlot n _ _ _
  · exact landed.completeSlot n _ _ _
  · exact landed.trans ⟨rfl, rfl⟩
  all_goals exact landed.cancelUnanswered n

theorem returnReserved (h : LineStands s t) (k : PollKind) : LineStands s (t.returnReserved k) := by
  cases k <;> exact h.trans ⟨rfl, rfl⟩

theorem takeReply (h : LineStands s t) (a : Address) (tag : SlotNo) (octet : Octet) (payload : List Octet) :
    LineStands s (t.takeReply a tag octet payload) := by
  unfold State.takeReply
  dsimp only
  split
  · exact h.completeSlot tag _ _ _
  · split
    · exact h.completeSlot tag _ _ _
    · exact h.trans ⟨rfl, rfl⟩

theorem fileEvent (h : LineStands s t) (r : RecordNo) (a : Address) (e : EventAnswer) (q : EventQueue) :
    LineStands s (t.fileEvent r a e q) := by
  unfold State.fileEvent
  dsimp only
  split <;> exact h.trans ⟨rfl, rfl⟩

theorem takeEvent (h : LineStands s t) (k : PollKind) (a : Address) (e : EventAnswer) :
    LineStands s (t.takeEvent k a e) := by
  unfold State.takeEvent
  split
  · exact h.fileEvent _ a e _
  · exact h.fileEvent _ a e _
  · exact h.returnReserved _

theorem pollEffect (h : LineStands s t) (k : PollKind) (a : Address) (o : ExchangeOutcome) :
    LineStands s (t.pollEffect k a o) := by
  unfold State.pollEffect
  split
  · exact (h.returnReserved k).takeReply a _ _ _
  · exact h.takeEvent k a _
  all_goals exact h.returnReserved k

theorem bookAnswer (h : LineStands s t) (x : Exchange) (ans : Answer) : LineStands s (t.bookAnswer x ans) := by
  unfold State.bookAnswer
  dsimp only
  split <;> exact h.trans ⟨rfl, rfl⟩

theorem goOffline (h : LineStands s t) (a : Address) : LineStands s (t.goOffline a) :=
  ((h.trans (u := t.modifyStation a fun e => { e with state := .offline }) ⟨rfl, rfl⟩).loseSlots a).trans ⟨rfl, rfl⟩

theorem bookSilence (h : LineStands s t) (a : Address) : LineStands s (t.bookSilence a) := by
  have counted : LineStands s (t.modifyStation a fun e => { e with noAnswer := e.noAnswer + 1 }) :=
    h.trans ⟨rfl, rfl⟩
  unfold State.bookSilence
  dsimp only
  split
  · exact counted.goOffline a
  · exact counted

theorem book (h : LineStands s t) (x : Exchange) (o : ExchangeOutcome) : LineStands s (t.book x o) := by
  cases o with
  | answer ans => exact h.bookAnswer x ans
  | noAnswer => exact h.bookSilence x.station
  | checkError => exact h.bookSilence x.station
  | protocolError => exact h.bookSilence x.station
  | echoFault => exact h

theorem applyOutcome (h : LineStands s t) (x : Exchange) (o : ExchangeOutcome) :
    LineStands s (t.applyOutcome x o) := by
  unfold State.applyOutcome
  split
  · exact (h.requestEffect _ o).book x o
  · exact (h.cancelEffect _ o).book x o
  · split
    · exact h.returnReserved _
    · exact (h.pollEffect _ _ o).book x o

theorem settle (h : LineStands s t) (x : Exchange) (o : ExchangeOutcome) : LineStands s (t.settle x o) :=
  (h.trans (u := t.endExchange) ⟨rfl, rfl⟩).applyOutcome x o

/-! ## The choice and the clock (R58, R148) -/

theorem carryOut (s : State) (c : Choice) : LineStands s (s.carryOut c) := by
  cases c with
  | poll a =>
    have reserved : ∀ k, LineStands (s.setBurst 0) ((s.setBurst 0).reserve k) := fun k => by
      cases k <;> exact ⟨rfl, rfl⟩
    exact ⟨(reserved _).state, (reserved _).cause⟩
  | cancel n => exact ⟨rfl, rfl⟩
  | requestInBurst n => exact ⟨rfl, rfl⟩
  | requestEmptyRing n => exact ⟨rfl, rfl⟩

theorem choose (s : State) : LineStands s s.choose := by
  unfold State.choose
  split
  · split
    · exact carryOut s _
    · exact refl s
  · exact refl s

theorem expireDeadlines (s : State) : LineStands s s.expireDeadlines := by
  rw [s.expireDeadlines_frame]
  exact ⟨rfl, rfl⟩

theorem stepClock (s : State) : LineStands s s.stepClock := by
  have holds : LineStands s s.expireDeadlines.expireHolds := (expireDeadlines s).trans ⟨rfl, rfl⟩
  have expired : LineStands s s.expireAll := holds.onCompletion (CompletionUnit.expire_line _)
  unfold State.stepClock
  split
  · exact refl s
  · exact expired.trans ⟨rfl, rfl⟩

/-! ## The tested registers and the window (R149, R163, R168 to R170) -/

theorem tested (s : State) (ok : Bool) (h : LineStands s t) : LineStands s (s.tested ok t) := by
  unfold State.tested
  split
  · exact h
  · exact (refl s).reportRefusal

theorem writeLineRate (s : State) (w : Word) : LineStands s (s.writeLineRate w) := by
  unfold State.writeLineRate
  split
  · exact tested s _ ⟨rfl, rfl⟩
  · exact (refl s).reportRefusal

theorem writeCoalesce (s : State) (w : Word) : LineStands s (s.writeCoalesce w) :=
  tested s _ ((refl s).onCompletion (CompletionUnit.setCoalesce_line _ _ _))

theorem writeClassifierSetup (s : State) (w : Word) : LineStands s (s.writeClassifierSetup w) := by
  unfold State.writeClassifierSetup
  split
  · exact ⟨rfl, rfl⟩
  · exact (refl s).reportRefusal

theorem tableWrite {addr : BitVec 12} {w : Word} (ht : s.tableWrite addr w = some t) : LineStands s t := by
  unfold State.tableWrite at ht
  split at ht
  · split at ht
    · obtain ⟨x, -, rfl⟩ := Option.map_eq_some_iff.1 ht
      exact ⟨rfl, rfl⟩
    · cases ht
  · split at ht
    · cases ht
    · obtain ⟨x, -, rfl⟩ := Option.map_eq_some_iff.1 ht
      exact ⟨rfl, rfl⟩
  · obtain ⟨x, -, rfl⟩ := Option.map_eq_some_iff.1 ht
    exact ⟨rfl, rfl⟩
  · cases ht
  · cases ht

theorem writeWindow (s : State) (w : Word) : LineStands s (s.writeWindow w) := by
  unfold State.writeWindow
  split
  · next t ht =>
    split at ht
    · cases ht
    · exact (tableWrite ht).trans ⟨rfl, rfl⟩
  · exact (refl s).reportRefusal.trans ⟨rfl, rfl⟩

theorem readWindow (s : State) : LineStands s s.readWindow := by
  unfold State.readWindow
  split
  · exact ⟨rfl, rfl⟩
  · split <;> exact ⟨rfl, rfl⟩

theorem releaseReset (s : State) : LineStands s s.releaseReset := by
  unfold State.releaseReset
  split <;> exact ⟨rfl, rfl⟩

end LineStands

/-! ## The eleven commands (R165, R167) -/

/-- A command whose DONE result leaves the line and LINE as they stood in `s`; any other result changes nothing. -/
inductive Verdict.LineStands (s : State) : Verdict → Prop
  | done {value : Word} {t : State} (h : Machine.LineStands s t) : LineStands s (.done value t)
  | fails (r : Result) : LineStands s (.fails r)

theorem Verdict.LineStands.withOperand {α : Type} {s : State} {operand : Option α} {body : α → Verdict}
    (h : ∀ x, (body x).LineStands s) : (Machine.withOperand operand body).LineStands s := by
  cases operand with
  | none => exact .fails _
  | some x => exact h x

section

variable (s : State) (n : SlotNo) (a : Address)

theorem State.allocate_lineStands : s.allocate.LineStands s := by
  unfold State.allocate
  split
  · exact .done ⟨rfl, rfl⟩
  · exact .fails _

theorem State.post_lineStands : (s.post n).LineStands s := by
  unfold State.post
  split
  · exact .fails _
  · exact .done ⟨rfl, rfl⟩

theorem State.release_lineStands : (s.release n).LineStands s := by
  unfold State.release
  split
  · exact .done ⟨rfl, rfl⟩
  · exact .fails _

theorem State.retire_lineStands : (s.retire n).LineStands s := by
  unfold State.retire
  split
  · exact .done ⟨rfl, rfl⟩
  · exact .fails _

theorem State.cancelCancelling_lineStands : (s.cancelCancelling n).LineStands s := by
  unfold State.cancelCancelling
  split
  · exact .fails _
  · split
    · exact .fails _
    · exact .done ((LineStands.refl s).completeSlot n _ _ _)

theorem State.cancel_lineStands : (s.cancel n).LineStands s := by
  unfold State.cancel
  split
  · exact .fails _
  · exact .fails _
  · exact .fails _
  · exact .done ((LineStands.refl s).completeSlot n _ _ _)
  · exact .done ⟨rfl, rfl⟩
  · exact .done ⟨rfl, rfl⟩
  · exact s.cancelCancelling_lineStands n

theorem State.stationEnable_lineStands : (s.stationEnable a).LineStands s := by
  unfold State.stationEnable
  split
  · exact .done ⟨rfl, rfl⟩
  · exact .fails _

theorem State.stationDisable_lineStands : (s.stationDisable a).LineStands s := by
  unfold State.stationDisable
  split
  · exact .fails _
  · split
    · exact .fails _
    · exact .done ⟨rfl, rfl⟩

theorem State.revive_lineStands : (s.revive a).LineStands s := by
  unfold State.revive
  split
  · exact .done ⟨rfl, rfl⟩
  · exact .fails _

theorem State.unquarantine_lineStands : (s.unquarantine a n).LineStands s := by
  unfold State.unquarantine
  split
  · exact .done ⟨rfl, rfl⟩
  · exact .fails _

theorem State.eventFree_lineStands (q : EventQueue) : (s.eventFree q).LineStands s := by
  unfold State.eventFree
  split
  · exact .done ⟨rfl, rfl⟩
  · exact .fails _

/-- INITIALISE starts the sweep, which leaves LINE (R159, R167). -/
theorem State.initialise_lineStands : s.initialise.LineStands s := by
  unfold State.initialise
  split
  · exact .done ⟨rfl, rfl⟩
  · exact .fails _

/-- Whatever command a code orders (11.3). -/
theorem commandBody_lineStands (code : Word) : (commandBody code s).LineStands s := by
  generalize hb : commandBody code = body
  unfold commandBody at hb
  split at hb <;> subst hb
  · exact s.allocate_lineStands
  · exact .withOperand s.post_lineStands
  · exact .withOperand s.release_lineStands
  · exact .withOperand s.retire_lineStands
  · exact .withOperand s.cancel_lineStands
  · exact .withOperand s.stationEnable_lineStands
  · exact .withOperand s.stationDisable_lineStands
  · exact .withOperand s.revive_lineStands
  · exact .withOperand fun a => .withOperand fun n => s.unquarantine_lineStands n a
  · exact .withOperand s.eventFree_lineStands
  · exact s.initialise_lineStands
  · exact .fails _

end

theorem LineStands.writeCommand (s : State) (code : Word) : LineStands s (s.writeCommand code) := by
  unfold State.writeCommand State.takeCommand
  split
  · exact refl s
  · split
    · exact ⟨rfl, rfl⟩
    · have stands := commandBody_lineStands s code
      split
      · next e =>
        rw [e] at stands
        cases stands with
        | done h => exact h.trans ⟨rfl, rfl⟩
      · exact ⟨rfl, rfl⟩

end Sys2Proof.Machine
end

-- ==== The entries that latch LINE (08) ====
section
/-! SUPPORT. Every command but a reset latches LINE at an entry of R151 and at no other moment, and only a write of
CAUSE clears it (R151, R158). -/

namespace Sys2Proof.Machine

variable {s t : State} {b : Bool}

/-! ## The entries (R151) -/

/-- The moves of the line that latch LINE: into FAULT from any other state (from OFF through STARTING), and into OFF
from STARTING or STOPPING. -/
abbrev LineState.EntryLatches (old new : LineState) : Prop :=
  new = .fault ∧ old ≠ .fault ∨ new = .off ∧ (old = .starting ∨ old = .stopping)

/-- After the change from `s` to `t` LINE is latched if it was and is not cleared, or if the line's move latches it. -/
def LatchesAtEntry (cleared : Bool) (s t : State) : Prop :=
  t.completionUnit.causes.line =
    (s.completionUnit.causes.line && !cleared ||
      decide (LineState.EntryLatches s.lineEngine.state t.lineEngine.state))

theorem LineState.not_entryLatches_self (l : LineState) : ¬ LineState.EntryLatches l l := by
  cases l <;> decide

/-- A move that is no such entry, and leaves LINE. -/
theorem latchesAtEntry_of_not (move : ¬ LineState.EntryLatches s.lineEngine.state t.lineEngine.state)
    (cause : t.completionUnit.causes.line = s.completionUnit.causes.line) : LatchesAtEntry false s t := by
  simp [LatchesAtEntry, move, cause]

/-- Such an entry, with LINE latched. -/
theorem latchesAtEntry_of_entry (move : LineState.EntryLatches s.lineEngine.state t.lineEngine.state)
    (cause : t.completionUnit.causes.line = true) : LatchesAtEntry b s t := by
  simp [LatchesAtEntry, move, cause]

theorem LineStands.latchesAtEntry (h : LineStands s t) : LatchesAtEntry false s t :=
  latchesAtEntry_of_not (h.state ▸ LineState.not_entryLatches_self _) h.cause

/-! ## The moves of the line (R137 to R146) -/

@[simp] theorem State.enterFault_state (s : State) : s.enterFault.lineEngine.state = .fault := by
  rw [s.enterFault_line.1]

/-- LINE is latched by the move to FAULT, and the outcome taken with it leaves it so (R143, R151). -/
@[simp] theorem State.enterFault_lineCause (s : State) : s.enterFault.completionUnit.causes.line = true := by
  cases h : s.lineScheduler.exchange with
  | none => rw [s.enterFault_of_none h]
  | some x => rw [s.enterFault_of_some h]; exact ((LineStands.refl _).settle x _).cause

/-- A change that ends with the move to FAULT, from any other state. -/
theorem latchesAtEntry_enterFault (h : s.lineEngine.state ≠ .fault) (t : State) : LatchesAtEntry b s t.enterFault :=
  latchesAtEntry_of_entry (.inl ⟨t.enterFault_state, h⟩) t.enterFault_lineCause

theorem latchesAtEntry_enterStarting (h : s.lineEngine.state = .off) : LatchesAtEntry false s s.enterStarting := by
  unfold State.enterStarting
  dsimp only
  split
  · exact latchesAtEntry_enterFault (by simp [h]) _
  · exact latchesAtEntry_of_not (by simp) rfl

theorem latchesAtEntry_runOne (s : State) : LatchesAtEntry false s s.runOne := by
  unfold State.runOne
  split
  · next off =>
    split
    · exact (LineStands.refl s).latchesAtEntry
    · exact latchesAtEntry_enterStarting off
  · exact latchesAtEntry_of_not (by simp [State.moveLine]) rfl
  all_goals exact (LineStands.refl s).latchesAtEntry

theorem latchesAtEntry_runZero (s : State) : LatchesAtEntry false s s.runZero := by
  unfold State.runZero
  split
  · next starting => exact latchesAtEntry_of_entry (.inr ⟨rfl, .inl starting⟩) rfl
  · next running => split <;> exact latchesAtEntry_of_not (by simp [State.moveLine, running]) rfl
  · next fault => exact latchesAtEntry_of_not (by simp [State.moveLine, fault]) rfl
  all_goals exact (LineStands.refl s).latchesAtEntry

theorem latchesAtEntry_endSettle (s : State) : LatchesAtEntry false s s.endSettle := by
  unfold State.endSettle
  split
  · exact latchesAtEntry_of_not (by simp [State.moveLine, State.setGap]) rfl
  · exact (LineStands.refl s).latchesAtEntry

theorem latchesAtEntry_contend (s : State) : LatchesAtEntry false s s.contend := by
  unfold State.contend
  split
  · next starting => exact latchesAtEntry_enterFault (by simp [starting]) _
  · exact (LineStands.refl s).latchesAtEntry

theorem latchesAtEntry_setLfault (s : State) (level : Bool) : LatchesAtEntry false s (s.setLfault level) := by
  unfold State.setLfault
  dsimp only
  split
  · next looks =>
    have move : s.lineEngine.state ≠ .fault := fun fault => by simp [fault, LineState.looksAtLfault] at looks
    exact latchesAtEntry_enterFault move _
  · exact LineStands.latchesAtEntry ⟨rfl, rfl⟩

/-- The third echo fault in a row moves the line to FAULT, from RUNNING or STOPPING: an exchange is in flight (R146). -/
theorem latchesAtEntry_echoMismatch (h : LineConsistent s) (bit : Nat) :
    LatchesAtEntry false s (s.echoMismatch bit) := by
  unfold State.echoMismatch
  split
  · exact (LineStands.refl s).latchesAtEntry
  · next x flight =>
    obtain ⟨inFlight, -, -, -⟩ := h
    have move : s.lineEngine.state ≠ .fault := fun fault => by simp [fault, flight] at inFlight
    split
    · dsimp only
      split
      · exact latchesAtEntry_enterFault move _
      · exact LineStands.latchesAtEntry ⟨rfl, rfl⟩
    · exact (LineStands.refl s).latchesAtEntry

/-- In STOPPING the outcome's taking ends with the entry to OFF (R142); elsewhere the line stands. -/
theorem latchesAtEntry_takeOutcome (s : State) : LatchesAtEntry false s s.takeOutcome := by
  unfold State.takeOutcome
  split
  · exact (LineStands.refl s).latchesAtEntry
  · split
    · dsimp only
      split
      · next stopping => exact latchesAtEntry_of_entry (.inr ⟨rfl, .inr stopping⟩) rfl
      · exact ((LineStands.refl s).settle _ _).latchesAtEntry
    all_goals exact (LineStands.refl s).latchesAtEntry

theorem latchesAtEntry_endSweep (s : State) : LatchesAtEntry false s s.endSweep := by
  unfold State.endSweep
  split
  · dsimp only
    split
    · next starts =>
      have off : s.lineEngine.state = .off := by simp_all
      exact latchesAtEntry_enterStarting
        (s := (s.onHost fun x => { x with sweep := false }).onCompletion CompletionUnit.latchInitDone) off
    · exact LineStands.latchesAtEntry ⟨rfl, rfl⟩
  · exact (LineStands.refl s).latchesAtEntry

/-! ## The stages of an exchange, in which the line stands -/

namespace LineStands

theorem passGap (s : State) : LineStands s s.passGap := by
  unfold State.passGap
  split <;> exact ⟨rfl, rfl⟩

theorem frameSent (s : State) : LineStands s s.frameSent := by
  unfold State.frameSent
  split <;> exact ⟨rfl, rfl⟩

theorem beginAnswer (s : State) (bitTime : Nat) : LineStands s (s.beginAnswer bitTime) := by
  unfold State.beginAnswer
  split <;> exact ⟨rfl, rfl⟩

theorem closeWindow (s : State) : LineStands s s.closeWindow := by
  unfold State.closeWindow
  split <;> exact ⟨rfl, rfl⟩

theorem noteLineError (h : LineStands s t) (a : Address) (o : ExchangeOutcome) :
    LineStands s (t.noteLineError a o) := by
  cases o <;> exact h.trans ⟨rfl, rfl⟩

theorem takeAnswer (s : State) (run : List RxOctet) : LineStands s (s.takeAnswer run) := by
  unfold State.takeAnswer
  split
  · exact refl s
  · next x _ =>
    split
    · have decided : LineStands s (s.setPhase (.decided (s.decideRun x run))) := ⟨rfl, rfl⟩
      exact (decided.noteLineError x.station _).trans ⟨rfl, rfl⟩
    · exact refl s

end LineStands

/-! ## The registers (R137, R158, R163) -/

/-- A write of CONTROL without the chip-reset bit moves the line by its RUN value. -/
theorem latchesAtEntry_writeControl {w : Word} (h : w.getLsbD 2 = false) :
    LatchesAtEntry false s (s.writeControl w) := by
  unfold State.writeControl
  simp only [h, Bool.false_eq_true, if_false]
  split
  · exact latchesAtEntry_runOne ((s.onHost fun x => { x with run := w.getLsbD 0 }).onCompletion fun u =>
      { u with interruptEnable := w.getLsbD 1 })
  · exact latchesAtEntry_runZero ((s.onHost fun x => { x with run := w.getLsbD 0 }).onCompletion fun u =>
      { u with interruptEnable := w.getLsbD 1 })

theorem latchesAtEntry_writeCause (s : State) (w : Word) :
    LatchesAtEntry (w.getLsbD 5) s (s.onCompletion (CompletionUnit.writeCause w)) := by
  simp [LatchesAtEntry, CompletionUnit.writeCause_line, LineState.not_entryLatches_self]

/-- A write of any register but CONTROL and CAUSE leaves the line and LINE. -/
theorem LineStands.writeNamed (s : State) (w : Word) {r : Register} (notControl : r ≠ .control)
    (notCause : r ≠ .cause) : LineStands s (s.writeNamed w r) := by
  cases r with
  | control => exact absurd rfl notControl
  | cause => exact absurd rfl notCause
  | command => exact writeCommand s w
  | windowData => exact writeWindow s w
  | lineRate => exact writeLineRate s w
  | answerWindow => exact tested s _ ⟨rfl, rfl⟩
  | stationLimits => exact tested s _ ⟨rfl, rfl⟩
  | holdoff => exact tested s _ ⟨rfl, rfl⟩
  | coalesce => exact writeCoalesce s w
  | classifierSetup => exact writeClassifierSetup s w
  | status | causeEnable | commandArg | stationChangesLow | stationChangesHigh | windowAddress | ident | commandResult
  | completionHead | completionCount | eventHeadA | eventHeadB | poolStatus | lineClock | lineErrorRecord
  | strayRecord => exact ⟨rfl, rfl⟩

/-- CONTROL stands at select 1, and CAUSE at select 3 (11.1). -/
theorem registerAt_eq_control {select : BitVec 5} : registerAt select = some .control ↔ select = 1 := by
  revert select; decide

theorem registerAt_eq_cause {select : BitVec 5} : registerAt select = some .cause ↔ select = 3 := by
  revert select; decide

/-- An access clears LINE only where it is taken, with RESET deasserted (R171). -/
theorem LatchesAtEntry.access {f : State → State} (h : s.pins.reset = false → LatchesAtEntry b s (f s)) :
    LatchesAtEntry (b && !s.pins.reset) s (s.access f) := by
  unfold State.access
  split
  · next held =>
    rw [held, Bool.not_true, Bool.and_false]
    exact (LineStands.refl s).latchesAtEntry
  · next free =>
    rw [Bool.not_eq_true] at free
    rw [free, Bool.not_false, Bool.and_true]
    exact h free

theorem latchesAtEntry_writeRegister {select : BitVec 5} {w : Word}
    (noReset : isChipReset (.registerWrite select w) = true → s.pins.reset = true) :
    LatchesAtEntry (isCauseWriteOf 5 (.registerWrite select w) && !s.pins.reset) s (s.writeRegister select w) := by
  refine LatchesAtEntry.access fun free => ?_
  by_cases control : select = 1
  · subst control
    have bit : w.getLsbD 2 = false := by simpa [isChipReset, free] using noReset
    exact latchesAtEntry_writeControl bit
  by_cases cause : select = 3
  · subst cause
    exact latchesAtEntry_writeCause s w
  have notCause : isCauseWriteOf 5 (.registerWrite select w) = false := by
    rw [isCauseWriteOf, beq_false_of_ne cause, Bool.false_and]
  rw [notCause]
  refine LineStands.latchesAtEntry ?_
  split
  · next r hr =>
    exact LineStands.writeNamed s w (fun e => control (registerAt_eq_control.1 (e ▸ hr)))
      fun e => cause (registerAt_eq_cause.1 (e ▸ hr))
  · exact LineStands.refl s

/-! ## Every command -/

/-- The commands that reset the 3120: the assertion of RESET, power-on, and a chip reset that is taken (R171, R172). -/
abbrev Resets (c : Instr) (s : State) : Prop :=
  c = .pinReset ∨ c = .powerOn ∨ isChipReset c = true ∧ s.pins.reset = false

/-- A write of CONTROL, in any of its four rows, that makes no reset. -/
theorem latchesAtEntry_controlRow {w : Word} (noReset : w.getLsbD 2 = true → s.pins.reset = true) :
    LatchesAtEntry false s (s.access (·.writeControl w)) :=
  LatchesAtEntry.access (b := false) fun free => latchesAtEntry_writeControl (by simpa [free] using noReset)

/-- Each command but a reset latches LINE at the entries of R151 and at no other moment, and clears it only as a write
of CAUSE that is taken. -/
theorem exec_latchesAtEntry (h : LineConsistent s) (c : Instr) (hc : ¬ Resets c s) :
    ∃ t, exec c s = .next t ∧ LatchesAtEntry (isCauseWriteOf 5 c && !s.pins.reset) s t := by
  obtain ⟨notPin, notPower, notChip⟩ :
      c ≠ .pinReset ∧ c ≠ .powerOn ∧ (isChipReset c = true → s.pins.reset = true) := by
    simpa [Resets, not_or] using hc
  have access {f : State → State} (hf : LineStands s (f s)) : LatchesAtEntry false s (s.access f) :=
    LatchesAtEntry.access (b := false) fun _ => hf.latchesAtEntry
  have command (code : Word) := (LineStands.writeCommand s code).latchesAtEntry
  cases c with
  | allocate => exact ⟨_, rfl, command 1⟩
  | post => exact ⟨_, rfl, command 2⟩
  | release => exact ⟨_, rfl, command 3⟩
  | retire => exact ⟨_, rfl, command 4⟩
  | cancel => exact ⟨_, rfl, command 5⟩
  | stationEnable => exact ⟨_, rfl, command 6⟩
  | stationDisable => exact ⟨_, rfl, command 7⟩
  | revive => exact ⟨_, rfl, command 8⟩
  | unquarantine => exact ⟨_, rfl, command 9⟩
  | eventFree => exact ⟨_, rfl, command 10⟩
  | initialise => exact ⟨_, rfl, command 11⟩
  | unknownCommandCode code => exact ⟨_, rfl, command code⟩
  | runWrite1 w => exact ⟨_, rfl, latchesAtEntry_controlRow notChip⟩
  | runWrite0 w => exact ⟨_, rfl, latchesAtEntry_controlRow notChip⟩
  | interruptEnableWrite w => exact ⟨_, rfl, latchesAtEntry_controlRow notChip⟩
  | chipReset w => exact ⟨_, rfl, latchesAtEntry_controlRow notChip⟩
  | causeWrite w => exact ⟨_, rfl, LatchesAtEntry.access fun _ => latchesAtEntry_writeCause s w⟩
  | refusedFlagClear w => exact ⟨_, rfl, access ⟨rfl, rfl⟩⟩
  | stationChangesWrite high w => exact ⟨_, rfl, access ⟨rfl, rfl⟩⟩
  | coalesceWrite w => exact ⟨_, rfl, access (LineStands.writeCoalesce s w)⟩
  | registerWrite select w => exact ⟨_, rfl, latchesAtEntry_writeRegister notChip⟩
  | windowDataRead => exact ⟨_, rfl, (LineStands.readWindow s).latchesAtEntry⟩
  | windowDataWrite w => exact ⟨_, rfl, access (LineStands.writeWindow s w)⟩
  | pinReset => exact absurd rfl notPin
  | resetRelease => exact ⟨_, rfl, (LineStands.releaseReset s).latchesAtEntry⟩
  | powerOn => exact absurd rfl notPower
  | sweepEnd => exact ⟨_, rfl, latchesAtEntry_endSweep s⟩
  | lineClockStep => exact ⟨_, rfl, (LineStands.stepClock s).latchesAtEntry⟩
  | deadlineExpiry => exact ⟨_, rfl, (LineStands.expireDeadlines s).latchesAtEntry⟩
  | holdExpiry => exact ⟨_, rfl, LineStands.latchesAtEntry ⟨rfl, rfl⟩⟩
  | coalescingTimerExpiry =>
    exact ⟨_, rfl, ((LineStands.refl s).onCompletion (CompletionUnit.expire_line _)).latchesAtEntry⟩
  | settleEnd => exact ⟨_, rfl, latchesAtEntry_endSettle s⟩
  | contention => exact ⟨_, rfl, latchesAtEntry_contend s⟩
  | lfault asserted => exact ⟨_, rfl, latchesAtEntry_setLfault s asserted⟩
  | turnaroundGapEnd => exact ⟨_, rfl, (LineStands.passGap s).latchesAtEntry⟩
  | lineSchedulerChoice => exact ⟨_, rfl, (LineStands.choose s).latchesAtEntry⟩
  | frameCompletelySent => exact ⟨_, rfl, (LineStands.frameSent s).latchesAtEntry⟩
  | echoFault bit => exact ⟨_, rfl, latchesAtEntry_echoMismatch h bit⟩
  | answerWindowClose => exact ⟨_, rfl, (LineStands.closeWindow s).latchesAtEntry⟩
  | answer run => exact ⟨_, rfl, (LineStands.takeAnswer s run).latchesAtEntry⟩
  | ignoredRun run => exact ⟨_, rfl, (LineStands.refl s).latchesAtEntry⟩
  | outcomeTaken => exact ⟨_, rfl, latchesAtEntry_takeOutcome s⟩
  | answerBegins bitTime => exact ⟨_, rfl, (LineStands.beginAnswer s bitTime).latchesAtEntry⟩

/-! ## The resets (R171, R172) -/

theorem State.writeControl_chipReset {w : Word} (h : w.getLsbD 2 = true) : s.writeControl w = s.chipReset :=
  if_pos h

/-- A chip reset that is taken, by any of the rows of CONTROL. -/
theorem exec_chipReset {c : Instr} (chip : isChipReset c = true) (free : s.pins.reset = false) :
    exec c s = .next s.chipReset := by
  have taken {w : Word} (h : w.getLsbD 2 = true) : s.access (·.writeControl w) = s.chipReset := by
    simpa [State.access, free] using State.writeControl_chipReset h
  cases c with
  | runWrite1 w => exact congrArg Host.Outcome.next (taken chip)
  | runWrite0 w => exact congrArg Host.Outcome.next (taken chip)
  | interruptEnableWrite w => exact congrArg Host.Outcome.next (taken chip)
  | chipReset w => exact congrArg Host.Outcome.next (taken chip)
  | registerWrite select w =>
    obtain ⟨rfl, bit⟩ : select = 1 ∧ w.getLsbD 2 = true := by simpa [isChipReset] using chip
    exact congrArg Host.Outcome.next (taken bit)
  | _ => cases chip

/-- Every reset leaves the line OFF and LINE clear (R150, R151, R159). -/
theorem exec_resets {c : Instr} (h : Resets c s) :
    ∃ t, exec c s = .next t ∧ t.lineEngine.state = .off ∧ t.completionUnit.causes.line = false := by
  obtain rfl | rfl | ⟨chip, free⟩ := h
  · exact ⟨_, rfl, rfl, rfl⟩
  · refine ⟨_, rfl, ?_⟩
    unfold State.powerOn
    split
    · exact ⟨rfl, rfl⟩
    · have released := LineStands.releaseReset s.assertReset
      exact ⟨released.state, released.cause⟩
  · exact ⟨_, exec_chipReset chip free, rfl, rfl⟩

/-- Settles O52: resets by `exec_resets`, and every other command by `exec_latchesAtEntry`, whose one equation for LINE
holds the last three clauses. -/
theorem lineIsLatchedAtItsEntriesAlone : Obligations.LineIsLatchedAtItsEntriesAlone := by
  intro c s t ht consistent
  have cause (noReset : ¬ Resets c s) : LatchesAtEntry (isCauseWriteOf 5 c && !s.pins.reset) s t := by
    obtain ⟨u, hu, latches⟩ := exec_latchesAtEntry consistent c noReset
    obtain rfl : u = t := by simpa [ht] using hu.symm
    exact latches
  refine ⟨fun reset => ?resets, fun noReset entered => ?latched, fun noReset other latched => ?byNoOther,
    fun noReset other latched => ?kept⟩
  case resets =>
    obtain ⟨u, hu, off⟩ := exec_resets reset
    obtain rfl : u = t := by simpa [ht] using hu.symm
    exact off
  case latched =>
    exact (cause noReset).trans (by rw [decide_eq_true entered, Bool.or_true])
  case byNoOther =>
    have stood := (cause noReset).symm.trans latched
    rw [decide_eq_false other, Bool.or_false, Bool.and_eq_true] at stood
    exact stood.1
  case kept =>
    have remains := cause noReset
    rw [LatchesAtEntry, decide_eq_false other, latched] at remains
    cases written : isCauseWriteOf 5 c with
    | true => exact .inr rfl
    | false => exact .inl (by simpa [written] using remains)

end Sys2Proof.Machine
end

-- ==== INITIALISE and the start of the sweep (10) ====
section
/-! SUPPORT. What the start of the sweep leaves in each record of table space, what INITIALISE comes to in each line
state, and the obligation about the command (R167, R173). -/

namespace Sys2Proof.Machine

variable {s t : State}

/-! ## The records of table space after the sweep's start (R49, R91, R122, R136; log 10) -/

@[simp] theorem State.startSweep_slot (s : State) (n : SlotNo) : s.startSweep.slot n = Slot.zero := by
  simp [State.slot, State.startSweep, SlotTable.initial]

@[simp] theorem State.startSweep_station (s : State) (a : Address) :
    s.startSweep.station a = Station.initial a := by
  simp [State.station, State.startSweep, StationTable.sweep]

@[simp] theorem State.startSweep_matchEntry (s : State) (i : EntryNo) :
    s.startSweep.classifier.table[i] = MatchEntry.zero := by
  simp [State.startSweep, MatchEntry.initialTable]

@[simp] theorem State.startSweep_eventRecord (s : State) (r : RecordNo) :
    s.startSweep.eventPool.records[r] = EventRecord.zero := by
  simp [State.startSweep, EventPool.initial]

/-- Entry 0, which belongs to no station, is all 0 (R74; log 21). -/
@[simp] theorem Station.initial_zero : Station.initial 0 = Station.zero := if_pos rfl

/-- The configuration word 0200h of a station's entry is the credit limit 2 (R91). -/
theorem Station.initial_of_ne {a : Address} (h : a ≠ 0) :
    Station.initial a = { Station.zero with creditLimit := 2 } := if_neg h

/-! ## The start of the sweep (R173) -/

theorem sweepStarts_startSweep (s : State) : SweepStarts s s.startSweep :=
  ⟨rfl, rfl, s.startSweep_slot, rfl, rfl, (s.startSweep_station 0).trans Station.initial_zero,
    fun a ha => (s.startSweep_station a).trans (Station.initial_of_ne ha), rfl, s.startSweep_matchEntry,
    s.startSweep_eventRecord, rfl, rfl, rfl⟩

/-- Of the Host Port the start of a sweep fixes INIT alone. -/
theorem SweepStarts.withHostPort (h : SweepStarts s t) {port : HostPort} (init : port.sweep = true) :
    SweepStarts s { t with hostPort := port } := by
  obtain ⟨frame, -, records⟩ := h
  exact ⟨congrArg (fun u : State => { u with hostPort := port }) frame, init, records⟩

/-! ## INITIALISE (R167) -/

theorem State.initialise_off (h : s.lineEngine.state = .off) : s.initialise = .done 0 s.startSweep := if_pos h

theorem State.initialise_of_ne_off (h : s.lineEngine.state ≠ .off) : s.initialise = .fails .wrongState := if_neg h

/-- Settles O9: INITIALISE is the start of the sweep and the answer DONE on the Host Port, which SweepStarts leaves
open; the other two clauses are the mechanism's refusals. -/
theorem initialiseSweepsWithTheLineOff : Obligations.InitialiseSweepsWithTheLineOff := by
  intro s awake
  refine ⟨?sweeps, ?wrongState, ?busy⟩
  case sweeps =>
    intro idle off
    refine ⟨_, congrArg Host.Outcome.next (takeCommand_done ⟨awake, idle⟩ (State.initialise_off off)), ?_, rfl⟩
    exact (sweepStarts_startSweep s).withHostPort rfl
  case wrongState =>
    exact fun idle other => congrArg Host.Outcome.next
      (takeCommand_fails ⟨awake, idle⟩ (State.initialise_of_ne_off other))
  case busy =>
    exact fun sweeping => congrArg Host.Outcome.next (takeCommand_sweep awake sweeping _ _)

end Sys2Proof.Machine
end

-- ==== The changes that commands make to the records ====
section
/-! SUPPORT. Every command, in every state, is a sequence of a few changes of the records: slots and their lists, stations,
event records, the exchange in flight. An invariant of the records that each of these changes keeps is kept by every step.
The queue of commands stands through all of them (log 1). -/

namespace Sys2Proof.Machine

variable {s t u : State} {n : SlotNo} {a : Address}

/-! ## Where the records stand -/

/-- The queue of commands, the slots and their lists, the stations' entries, the Event Pool and the kind of the exchange in
flight are the same in both states. -/
structure RecordsStand (s t : State) : Prop where
  pending       : t.pending = s.pending
  slot          : ∀ n, t.slot n = s.slot n
  dispatchQueue : t.dispatchQueue = s.dispatchQueue
  cancelList    : t.cancelList = s.cancelList
  station       : ∀ a, t.station a = s.station a
  eventPool     : t.eventPool = s.eventPool
  completion    : t.completionUnit.queue = s.completionUnit.queue
  kind          : t.kindInFlight = s.kindInFlight

namespace RecordsStand

theorem refl (s : State) : RecordsStand s s := ⟨rfl, fun _ => rfl, rfl, rfl, fun _ => rfl, rfl, rfl, rfl⟩

theorem onPins (s : State) (f : Pins → Pins) : RecordsStand s (s.onPins f) :=
  ⟨rfl, fun _ => rfl, rfl, rfl, fun _ => rfl, rfl, rfl, rfl⟩

theorem onHost (s : State) (f : HostPort → HostPort) : RecordsStand s (s.onHost f) :=
  ⟨rfl, fun _ => rfl, rfl, rfl, fun _ => rfl, rfl, rfl, rfl⟩

theorem onClassifier (s : State) (f : Classifier → Classifier) : RecordsStand s (s.onClassifier f) :=
  ⟨rfl, fun _ => rfl, rfl, rfl, fun _ => rfl, rfl, rfl, rfl⟩

theorem onEngine (s : State) (f : LineEngine → LineEngine) : RecordsStand s (s.onEngine f) :=
  ⟨rfl, fun _ => rfl, rfl, rfl, fun _ => rfl, rfl, rfl, rfl⟩

theorem onCompletion (s : State) {f : CompletionUnit → CompletionUnit}
    (hf : (f s.completionUnit).queue = s.completionUnit.queue) : RecordsStand s (s.onCompletion f) :=
  ⟨rfl, fun _ => rfl, rfl, rfl, fun _ => rfl, rfl, hf, rfl⟩

theorem onScheduler (s : State) {f : LineScheduler → LineScheduler}
    (hf : (f s.lineScheduler).exchange.map Exchange.kind = s.lineScheduler.exchange.map Exchange.kind) :
    RecordsStand s (s.onScheduler f) :=
  ⟨rfl, fun _ => rfl, rfl, rfl, fun _ => rfl, rfl, rfl, hf⟩

theorem onStations (s : State) {f : StationTable → StationTable}
    (hf : (f s.stationTable).entries = s.stationTable.entries) : RecordsStand s (s.onStations f) :=
  ⟨rfl, fun _ => rfl, rfl, rfl, fun b => congrArg (fun v : Vector Station 32 => v[b]) hf, rfl, rfl, rfl⟩

end RecordsStand

/-- Every record as a sweep or a reset leaves it, and no exchange in flight (R49, R91, R136). -/
structure RecordsStart (s t : State) : Prop where
  pending       : t.pending = s.pending
  slot          : ∀ n, t.slot n = Slot.zero
  dispatchQueue : t.dispatchQueue = []
  cancelList    : t.cancelList = []
  station       : ∀ a, t.station a = Station.initial a
  eventPool     : t.eventPool = EventPool.initial
  completion    : t.completionUnit.queue = []
  exchange      : t.lineScheduler.exchange = none

theorem recordsStart_startSweep (s : State) : RecordsStart s s.startSweep :=
  ⟨rfl, s.startSweep_slot, rfl, rfl, s.startSweep_station, rfl, rfl, rfl⟩

theorem State.reset_slot (n : SlotNo) : State.reset.slot n = Slot.zero := by
  simp [State.slot, State.reset, SlotTable.initial]

theorem State.reset_station (a : Address) : State.reset.station a = Station.initial a := by
  simp [State.station, State.reset]

theorem recordsStart_resetWith (s : State) (cause : ResetCause) (sweep : Bool) :
    RecordsStart s (s.resetWith cause sweep) :=
  ⟨rfl, State.reset_slot, rfl, rfl, State.reset_station, rfl, rfl, rfl⟩

/-! ## The changes -/

/-- The changes of one station's entry that the host makes (R76, R77, R86, R88, R170). -/
inductive StationChange (s : State) (a : Address) : (Station → Station) → Prop
  | enable : StationChange s a fun e => { e with state := .unknown }
  | disable (idle : s.hasLiveSlot a = false) : StationChange s a Station.disable
  | revive : StationChange s a Station.revive
  | unquarantine (tag : SlotNo) :
      StationChange s a fun e => { e with quarantine := e.quarantine &&& ~~~memberBit tag }
  | configure {k : Fin 8} {w : Word} {e : Station} (written : (s.station a).writeWord k w = some e) :
      StationChange s a fun _ => e

/-- The changes of one slot that the host makes (R32 to R35, R43 to R46, R170). -/
inductive SlotChange (s : State) (n : SlotNo) : State → Prop
  | allocate (free : (s.slot n).state = .free) : SlotChange s n (s.modifySlot n Slot.allocated)
  | hostWord {k : Fin 80} {w : Word} {r : Slot} (owned : (s.slot n).state = .owned)
      (written : (s.slot n).writeWord k w = some r) : SlotChange s n (s.modifySlot n fun _ => r)
  | enqueue (passed : s.postRefusal n = none) : SlotChange s n (s.enqueue n)
  | release (owned : (s.slot n).state = .owned) :
      SlotChange s n (s.modifySlot n fun r => { r with state := .free })
  | retire (done : (s.slot n).state = .done) :
      SlotChange s n ((s.modifySlot n fun r => { r with state := .free }).onCompletion (CompletionUnit.leave n))
  | cancelQueued (queued : (s.slot n).state = .queued) : SlotChange s n (s.completeSlot n .cancelled 0 [])
  | cancelSending (sending : (s.slot n).state = .sending) :
      SlotChange s n (s.modifySlot n fun r => { r with hostCancel := true })
  | cancelWaiting (waiting : (s.slot n).state = .waiting) : SlotChange s n (s.cancelWaiting n)
  | abandon (cancelling : (s.slot n).state = .cancelling) (idle : ¬ (s.slot n).cancelInFlight = true) :
      SlotChange s n (s.completeSlot n .abandoned 0 [])

/-- The changes that the host makes by a command or by a write of table space, with the start of the sweep by INITIALISE
(R165 to R170). -/
inductive HostChange (s : State) : State → Prop
  | slot {n : SlotNo} {t : State} (h : SlotChange s n t) : HostChange s t
  | station {a : Address} {f : Station → Station} (h : StationChange s a f) : HostChange s (s.modifyStation a f)
  | eventFree {q : EventQueue} {r : RecordNo} {rest : List RecordNo} (head : s.eventPool.queueOf q = r :: rest) :
      HostChange s (s.onPool fun p => (p.setQueue q rest).giveFree r)
  | classify (f : Classifier → Classifier) : HostChange s (s.onClassifier f)
  | sweep (off : s.lineEngine.state = .off) : HostChange s s.startSweep

/-- The changes that the records undergo. -/
inductive RecordChange (s : State) : State → Prop
  | stand {t : State} (h : RecordsStand s t) : RecordChange s t
  | start {t : State} (h : RecordsStart s t) : RecordChange s t
  | slot {n : SlotNo} {t : State} (h : SlotChange s n t) : RecordChange s t
  | station {a : Address} {f : Station → Station} (h : StationChange s a f) : RecordChange s (s.modifyStation a f)
  | eventFree {q : EventQueue} {r : RecordNo} {rest : List RecordNo} (head : s.eventPool.queueOf q = r :: rest) :
      RecordChange s (s.onPool fun p => (p.setQueue q rest).giveFree r)
  | sendCancel {n : SlotNo} (idle : s.lineScheduler.exchange = none) (head : n ∈ s.cancelList) :
      RecordChange s (s.sendCancel n)
  | sendRequest {n : SlotNo} (idle : s.lineScheduler.exchange = none) (queued : (s.slot n).state = .queued) :
      RecordChange s (s.sendRequest n)
  | sendPoll (idle : s.lineScheduler.exchange = none) (a : Address) : RecordChange s (s.sendPoll a)
  | settle {x : Exchange} (flight : s.lineScheduler.exchange = some x) (o : ExchangeOutcome) :
      RecordChange s (s.settle x o)
  | expireDeadlines : RecordChange s s.expireDeadlines
  | expireHolds : RecordChange s s.expireHolds
  | countDown : RecordChange s s.countDown

theorem HostChange.record (h : HostChange s t) : RecordChange s t := by
  cases h with
  | slot h => exact .slot h
  | station h => exact .station h
  | eventFree head => exact .eventFree head
  | classify f => exact .stand (.onClassifier s f)
  | sweep off => exact .start (recordsStart_startSweep s)

/-! ## What the host orders (10.2, 10.3) -/

/-- An accepted write of table space changes one record (R170). -/
theorem hostChange_tableWrite {addr : BitVec 12} {w : Word} (ht : s.tableWrite addr w = some t) : HostChange s t := by
  unfold State.tableWrite at ht
  split at ht
  · split at ht
    · next owned =>
      obtain ⟨r, written, rfl⟩ := Option.map_eq_some_iff.1 ht
      exact .slot (.hostWord owned written)
    · cases ht
  · split at ht
    · cases ht
    · obtain ⟨e, written, rfl⟩ := Option.map_eq_some_iff.1 ht
      exact .station (.configure written)
  · obtain ⟨e, -, rfl⟩ := Option.map_eq_some_iff.1 ht
    exact .classify _
  · cases ht
  · cases ht

/-- A command whose DONE result is one change that the host makes; any other result changes nothing. -/
inductive Verdict.Orders (s : State) : Verdict → Prop
  | done {value : Word} {t : State} (h : HostChange s t) : Orders s (.done value t)
  | fails (r : Result) : Orders s (.fails r)

theorem Verdict.Orders.withOperand {α : Type} {operand : Option α} {body : α → Verdict}
    (h : ∀ x, Verdict.Orders s (body x)) : Verdict.Orders s (Machine.withOperand operand body) := by
  cases operand with
  | none => exact .fails _
  | some x => exact h x

/-- A command that comes to DONE with a change of one slot where a test on the slot holds. -/
theorem Verdict.Orders.slotIf {p : Prop} [Decidable p] {value : Word} {r : Result} (h : p → SlotChange s n t) :
    Verdict.Orders s (if p then .done value t else .fails r) := by
  split
  · next hp => exact .done (.slot (h hp))
  · exact .fails _

/-- A command that comes to DONE with a change of one station's entry where a test on the entry holds. -/
theorem Verdict.Orders.stationIf {p : Prop} [Decidable p] {value : Word} {r : Result} {f : Station → Station}
    (h : StationChange s a f) : Verdict.Orders s (if p then .done value (s.modifyStation a f) else .fails r) := by
  split
  · exact .done (.station h)
  · exact .fails _

theorem State.allocate_orders (s : State) : s.allocate.Orders s := by
  unfold State.allocate
  split
  · next n found =>
    have free : (s.slot n).state = .free := by simpa using List.find?_some found
    exact .done (.slot (.allocate free))
  · exact .fails _

theorem State.post_orders (s : State) (n : SlotNo) : (s.post n).Orders s := by
  unfold State.post
  split
  · exact .fails _
  · next passed => exact .done (.slot (.enqueue passed))

theorem State.cancel_orders (s : State) (n : SlotNo) : (s.cancel n).Orders s := by
  unfold State.cancel
  split
  · exact .fails _
  · exact .fails _
  · exact .fails _
  · next queued => exact .done (.slot (.cancelQueued queued))
  · next sending => exact .done (.slot (.cancelSending sending))
  · next waiting => exact .done (.slot (.cancelWaiting waiting))
  · next cancelling =>
    unfold State.cancelCancelling
    split
    · exact .fails _
    · next idle =>
      split
      · exact .fails _
      · exact .done (.slot (.abandon cancelling idle))

theorem State.stationDisable_orders (s : State) (a : Address) : (s.stationDisable a).Orders s := by
  unfold State.stationDisable
  split
  · exact .fails _
  · split
    · exact .fails _
    · next idle => exact .done (.station (.disable (by simpa using idle)))

theorem State.eventFree_orders (s : State) (q : EventQueue) : (s.eventFree q).Orders s := by
  unfold State.eventFree
  split
  · next head => exact .done (.eventFree head)
  · exact .fails _

theorem State.initialise_orders (s : State) : s.initialise.Orders s := by
  unfold State.initialise
  split
  · next off => exact .done (.sweep off)
  · exact .fails _

/-- Whatever command a code orders (11.3). -/
theorem commandBody_orders (s : State) (code : Word) : (commandBody code s).Orders s := by
  generalize hb : commandBody code = body
  unfold commandBody at hb
  split at hb <;> subst hb
  · exact s.allocate_orders
  · exact .withOperand s.post_orders
  · exact .withOperand fun _ => .slotIf .release
  · exact .withOperand fun _ => .slotIf .retire
  · exact .withOperand s.cancel_orders
  · exact .withOperand fun _ => .stationIf .enable
  · exact .withOperand s.stationDisable_orders
  · exact .withOperand fun _ => .stationIf .revive
  · exact .withOperand fun _ => .withOperand fun tag => .stationIf (.unquarantine tag)
  · exact .withOperand s.eventFree_orders
  · exact s.initialise_orders
  · exact .fails _

/-- Changes of the records one after another. -/
abbrev RecordsReach : State → State → Prop := Relation.ReflTransGen RecordChange

namespace RecordsReach

theorem stand (h : RecordsReach s t) (k : RecordsStand t u) : RecordsReach s u := h.tail (.stand k)

theorem change (h : RecordChange s t) : RecordsReach s t := .single h

theorem of_stand (k : RecordsStand s t) : RecordsReach s t := change (.stand k)

/-! ## The line (08) -/

theorem moveLineLatching (h : RecordsReach s t) (l : LineState) : RecordsReach s (t.moveLineLatching l) :=
  (h.stand (.onEngine t _)).stand (.onCompletion _ rfl)

theorem recordError (h : RecordsReach s t) (kind : ErrorKind) (a : Address) :
    RecordsReach s (t.recordError kind a) :=
  (h.stand (.onEngine t _)).stand (.onCompletion _ rfl)

theorem setPhase (h : RecordsReach s t) (p : Phase) : RecordsReach s (t.setPhase p) := by
  refine h.stand (.onScheduler t ?_)
  cases t.lineScheduler.exchange <;> rfl

/-- FAULT takes the outcome of the exchange in flight (R143). -/
theorem enterFault (h : RecordsReach s t) : RecordsReach s t.enterFault := by
  unfold State.enterFault
  dsimp only
  split
  · exact h.moveLineLatching .fault
  · next x flight =>
    exact (h.moveLineLatching .fault).tail (.settle (s := t.moveLineLatching .fault) flight x.phase.abortOutcome)

theorem enterStarting (h : RecordsReach s t) : RecordsReach s t.enterStarting := by
  have started : RecordsReach s
      ((t.onEngine fun e => { e with state := .starting, echoCount := 0, gapPassed := false }).onScheduler
        fun l => { l with burst := 0 }) := (h.stand (.onEngine t _)).stand (.onScheduler _ rfl)
  unfold State.enterStarting
  dsimp only
  split
  · exact started.enterFault
  · exact started

theorem runOne (h : RecordsReach s t) : RecordsReach s t.runOne := by
  unfold State.runOne
  split
  · split
    · exact h
    · exact h.enterStarting
  · exact h.stand (.onEngine t _)
  all_goals exact h

theorem runZero (h : RecordsReach s t) : RecordsReach s t.runZero := by
  unfold State.runZero
  split
  · exact h.moveLineLatching .off
  · split <;> exact h.stand (.onEngine t _)
  · exact h.stand (.onEngine t _)
  all_goals exact h

theorem endSettle (s : State) : RecordsReach s s.endSettle := by
  unfold State.endSettle
  split
  · exact (of_stand (.onEngine s _)).stand (.onEngine _ _)
  · exact .refl

theorem contend (s : State) : RecordsReach s s.contend := by
  unfold State.contend
  split
  · exact (recordError .refl .echo 0).enterFault
  · exact .refl

theorem setLfault (s : State) (level : Bool) : RecordsReach s (s.setLfault level) := by
  unfold State.setLfault
  dsimp only
  split
  · exact (of_stand (.onPins s _)).enterFault
  · exact of_stand (.onPins s _)

theorem passGap (s : State) : RecordsReach s s.passGap := by
  unfold State.passGap
  split
  · exact .refl
  · exact .refl
  all_goals exact of_stand (.onEngine s _)

theorem frameSent (s : State) : RecordsReach s s.frameSent := by
  unfold State.frameSent
  split
  · exact (setPhase .refl .windowOpen).stand (.onEngine _ _)
  · exact .refl

theorem echoMismatch (s : State) (bit : Nat) : RecordsReach s (s.echoMismatch bit) := by
  unfold State.echoMismatch
  split
  · exact .refl
  · next x _ =>
    have noted : RecordsReach s
        (((s.setPhase (.decided .echoFault)).recordError .echo x.station).onEngine fun e =>
          { e with echoCount := e.echoCount + 1, gapPassed := false }) :=
      ((setPhase .refl _).recordError .echo x.station).stand (.onEngine _ _)
    split
    · dsimp only
      split
      · exact noted.enterFault
      · exact noted
    · exact .refl

theorem beginAnswer (s : State) (bitTime : Nat) : RecordsReach s (s.beginAnswer bitTime) := by
  unfold State.beginAnswer
  split
  · exact setPhase .refl .receiving
  · exact .refl

theorem closeWindow (s : State) : RecordsReach s s.closeWindow := by
  unfold State.closeWindow
  split
  · exact (setPhase .refl _).stand (.onEngine _ _)
  · exact .refl

theorem noteLineError (h : RecordsReach s t) (a : Address) (o : ExchangeOutcome) :
    RecordsReach s (t.noteLineError a o) := by
  cases o with
  | checkError => exact h.recordError .check a
  | protocolError => exact h.recordError .protocol a
  | answer _ => exact h
  | noAnswer => exact h
  | echoFault => exact h

theorem takeAnswer (s : State) (run : List RxOctet) : RecordsReach s (s.takeAnswer run) := by
  unfold State.takeAnswer
  split
  · exact .refl
  · next x _ =>
    split
    · exact ((setPhase .refl _).noteLineError x.station _).stand (.onEngine _ _)
    · exact .refl

theorem takeOutcome (s : State) : RecordsReach s s.takeOutcome := by
  unfold State.takeOutcome
  split
  · exact .refl
  · next x flight =>
    split
    · next o _ =>
      have settled : RecordsReach s (s.settle x o) := change (.settle flight o)
      dsimp only
      split
      · exact settled.moveLineLatching .off
      · exact settled
    all_goals exact .refl

/-! ## The choice and the clock (03; R148) -/

theorem setBurst (s : State) (k : Nat) : RecordsReach s (s.setBurst k) := of_stand (.onScheduler s rfl)

theorem choose (s : State) : RecordsReach s s.choose := by
  unfold State.choose
  split
  · next may =>
    have idle : s.lineScheduler.exchange = none := by
      simp only [State.mayChoose, Bool.and_eq_true, Option.isNone_iff_eq_none] at may
      obtain ⟨⟨-, idle⟩, -⟩ := may
      exact idle
    split
    · next c hc =>
      obtain ⟨n, rfl, hn⟩ | ⟨a, rfl⟩ | ⟨n, rfl | rfl, hn⟩ := State.choice_cases hc
      · exact change (.sendCancel idle hn)
      · exact (setBurst s 0).tail (.sendPoll (s := s.setBurst 0) idle a)
      · exact (setBurst s _).tail (.sendRequest (s := s.setBurst _) idle (s.pickRequest_queued hn))
      · exact (setBurst s 0).tail (.sendRequest (s := s.setBurst 0) idle (s.pickRequest_queued hn))
    · exact .refl
  · exact .refl

theorem stepClock (s : State) : RecordsReach s s.stepClock := by
  unfold State.stepClock
  split
  · exact .refl
  · have expired : RecordsReach s s.expireAll :=
      stand (Relation.ReflTransGen.tail (change .expireDeadlines) .expireHolds)
        (.onCompletion _ (CompletionUnit.expire_queue _))
    exact expired.tail .countDown

/-! ## The registers and the window (10) -/

theorem reportRefusal (h : RecordsReach s t) : RecordsReach s t.reportRefusal :=
  (h.stand (.onHost t _)).stand (.onCompletion _ rfl)

theorem tested (s : State) (ok : Bool) (h : RecordsReach s t) : RecordsReach s (s.tested ok t) := by
  unfold State.tested
  split
  · exact h
  · exact reportRefusal .refl

theorem writeControl (s : State) (w : Word) : RecordsReach s (s.writeControl w) := by
  have stored : RecordsReach s ((s.onHost fun x => { x with run := w.getLsbD 0 }).onCompletion fun u =>
      { u with interruptEnable := w.getLsbD 1 }) := (of_stand (.onHost s _)).stand (.onCompletion _ rfl)
  unfold State.writeControl
  split
  · exact change (.start (recordsStart_resetWith s .chip true))
  · dsimp only
    split
    · exact stored.runOne
    · exact stored.runZero

theorem writeCause (s : State) (w : Word) : RecordsReach s (s.onCompletion (CompletionUnit.writeCause w)) :=
  of_stand (.onCompletion s (CompletionUnit.writeCause_queue w _))

theorem clearChanges (s : State) (high : Bool) (w : Word) : RecordsReach s (s.clearChanges high w) :=
  of_stand (.onStations s rfl)

theorem writeLineRate (s : State) (w : Word) : RecordsReach s (s.writeLineRate w) := by
  unfold State.writeLineRate
  split
  · exact tested s _ (of_stand (.onEngine s _))
  · exact reportRefusal .refl

theorem writeCoalesce (s : State) (w : Word) : RecordsReach s (s.writeCoalesce w) :=
  tested s _ (of_stand (.onCompletion s (CompletionUnit.setCoalesce_queue _ _ _)))

theorem writeClassifierSetup (s : State) (w : Word) : RecordsReach s (s.writeClassifierSetup w) := by
  unfold State.writeClassifierSetup
  split
  · exact of_stand (.onClassifier s _)
  · exact reportRefusal .refl

theorem writeWindow (s : State) (w : Word) : RecordsReach s (s.writeWindow w) := by
  unfold State.writeWindow
  split
  · next t ht =>
    split at ht
    · cases ht
    · exact (change (hostChange_tableWrite ht).record).stand (.onHost t _)
  · exact (reportRefusal .refl).stand (.onHost _ _)

theorem readWindow (s : State) : RecordsReach s s.readWindow := by
  unfold State.readWindow
  split
  · exact of_stand (.onPins s _)
  · split
    · exact (of_stand (.onPins s _)).stand (.onHost _ _)
    · exact (reportRefusal (of_stand (.onPins s _))).stand (.onHost _ _)

/-! ## The commands and the registers (10.1, 10.2) -/

theorem writeCommand (s : State) (code : Word) : RecordsReach s (s.writeCommand code) := by
  unfold State.writeCommand State.takeCommand
  split
  · exact .refl
  · split
    · exact of_stand (.onHost s _)
    · have orders := commandBody_orders s code
      split
      · next e =>
        rw [e] at orders
        cases orders with
        | done h => exact (change h.record).stand (.onHost _ _)
      · exact of_stand (.onHost s _)

theorem writeNamed (s : State) (w : Word) (r : Register) : RecordsReach s (s.writeNamed w r) := by
  cases r with
  | control => exact writeControl s w
  | status => exact of_stand (.onHost s fun h => { h with refusedFlag := h.refusedFlag && !w.getLsbD 4 })
  | cause => exact writeCause s w
  | causeEnable => exact of_stand (.onCompletion s (f := fun u => { u with enables := w.setWidth 10 }) rfl)
  | command => exact writeCommand s w
  | commandArg => exact of_stand (.onHost s fun h => { h with commandArg := w })
  | stationChangesLow => exact clearChanges s false w
  | stationChangesHigh => exact clearChanges s true w
  | windowAddress => exact of_stand (.onHost s fun h => { h with windowAddress := w.setWidth 12 })
  | windowData => exact writeWindow s w
  | lineRate => exact writeLineRate s w
  | answerWindow => exact tested s _ (of_stand (.onEngine s _))
  | stationLimits => exact tested s _ ((of_stand (.onStations s rfl)).stand (.onScheduler _ rfl))
  | holdoff => exact tested s _ (of_stand (.onStations s rfl))
  | coalesce => exact writeCoalesce s w
  | classifierSetup => exact writeClassifierSetup s w
  | ident | commandResult | completionHead | completionCount | eventHeadA | eventHeadB | poolStatus | lineClock
  | lineErrorRecord | strayRecord => exact .refl

theorem access {f : State → State} (h : RecordsReach s (f s)) : RecordsReach s (s.access f) := by
  unfold State.access
  split
  · exact .refl
  · exact h

theorem writeRegister (s : State) (select : BitVec 5) (w : Word) : RecordsReach s (s.writeRegister select w) := by
  refine access ?_
  split
  · exact writeNamed s w _
  · exact .refl

/-! ## The resets and the sweep (10.4, 10.5) -/

theorem assertReset (s : State) : RecordsReach s s.assertReset :=
  (of_stand (.onPins s _)).tail (.start (recordsStart_resetWith _ _ _))

theorem releaseReset (h : RecordsReach s t) : RecordsReach s t.releaseReset := by
  unfold State.releaseReset
  split
  · exact (h.stand (.onPins t _)).tail (.start (recordsStart_startSweep _))
  · exact h

theorem powerOn (s : State) : RecordsReach s s.powerOn := by
  unfold State.powerOn
  split
  · exact assertReset s
  · exact (assertReset s).releaseReset

theorem endSweep (s : State) : RecordsReach s s.endSweep := by
  have ended : RecordsReach s
      ((s.onHost fun x => { x with sweep := false }).onCompletion CompletionUnit.latchInitDone) :=
    (of_stand (.onHost s _)).stand (.onCompletion _ rfl)
  unfold State.endSweep
  split
  · dsimp only
    split
    · exact ended.enterStarting
    · exact ended
  · exact .refl

end RecordsReach

/-! ## Every command, and the step -/

/-- Every command answers a next state, in every state, which changes of the records reach. -/
theorem exec_reaches (c : Instr) (s : State) : ∃ t, exec c s = .next t ∧ RecordsReach s t := by
  cases c with
  | allocate => exact ⟨_, rfl, .writeCommand s 1⟩
  | post => exact ⟨_, rfl, .writeCommand s 2⟩
  | release => exact ⟨_, rfl, .writeCommand s 3⟩
  | retire => exact ⟨_, rfl, .writeCommand s 4⟩
  | cancel => exact ⟨_, rfl, .writeCommand s 5⟩
  | stationEnable => exact ⟨_, rfl, .writeCommand s 6⟩
  | stationDisable => exact ⟨_, rfl, .writeCommand s 7⟩
  | revive => exact ⟨_, rfl, .writeCommand s 8⟩
  | unquarantine => exact ⟨_, rfl, .writeCommand s 9⟩
  | eventFree => exact ⟨_, rfl, .writeCommand s 10⟩
  | initialise => exact ⟨_, rfl, .writeCommand s 11⟩
  | unknownCommandCode code => exact ⟨_, rfl, .writeCommand s code⟩
  | runWrite1 w => exact ⟨_, rfl, .access (.writeControl s w)⟩
  | runWrite0 w => exact ⟨_, rfl, .access (.writeControl s w)⟩
  | interruptEnableWrite w => exact ⟨_, rfl, .access (.writeControl s w)⟩
  | chipReset w => exact ⟨_, rfl, .access (.writeControl s w)⟩
  | causeWrite w => exact ⟨_, rfl, .access (.writeCause s w)⟩
  | refusedFlagClear w => exact ⟨_, rfl, .access (.writeNamed s w .status)⟩
  | stationChangesWrite high w => exact ⟨_, rfl, .access (.clearChanges s high w)⟩
  | coalesceWrite w => exact ⟨_, rfl, .access (.writeCoalesce s w)⟩
  | registerWrite select w => exact ⟨_, rfl, .writeRegister s select w⟩
  | windowDataRead => exact ⟨_, rfl, .readWindow s⟩
  | windowDataWrite w => exact ⟨_, rfl, .access (.writeWindow s w)⟩
  | pinReset => exact ⟨_, rfl, .assertReset s⟩
  | resetRelease => exact ⟨_, rfl, .releaseReset .refl⟩
  | powerOn => exact ⟨_, rfl, .powerOn s⟩
  | sweepEnd => exact ⟨_, rfl, .endSweep s⟩
  | lineClockStep => exact ⟨_, rfl, .stepClock s⟩
  | deadlineExpiry => exact ⟨_, rfl, .change .expireDeadlines⟩
  | holdExpiry => exact ⟨_, rfl, .change .expireHolds⟩
  | coalescingTimerExpiry =>
    exact ⟨_, rfl, .of_stand (.onCompletion s (CompletionUnit.expire_queue _))⟩
  | settleEnd => exact ⟨_, rfl, .endSettle s⟩
  | contention => exact ⟨_, rfl, .contend s⟩
  | lfault asserted => exact ⟨_, rfl, .setLfault s asserted⟩
  | turnaroundGapEnd => exact ⟨_, rfl, .passGap s⟩
  | lineSchedulerChoice => exact ⟨_, rfl, .choose s⟩
  | frameCompletelySent => exact ⟨_, rfl, .frameSent s⟩
  | echoFault bit => exact ⟨_, rfl, .echoMismatch s bit⟩
  | answerWindowClose => exact ⟨_, rfl, .closeWindow s⟩
  | answer run => exact ⟨_, rfl, .takeAnswer s run⟩
  | ignoredRun run => exact ⟨_, rfl, .refl⟩
  | outcomeTaken => exact ⟨_, rfl, .takeOutcome s⟩
  | answerBegins bitTime => exact ⟨_, rfl, .beginAnswer s bitTime⟩

/-- What each change keeps, changes one after another keep. -/
theorem RecordsReach.keeps {P : State → Prop} (keeps : ∀ {s t : State}, RecordChange s t → P s → P t)
    (reach : RecordsReach s t) (h : P s) : P t := by
  induction reach with
  | refl => exact h
  | tail _ change ih => exact keeps change ih

/-- An invariant of the records is kept by every step if it is kept by each of the changes. Taking a command off the queue
moves no record, but shortens the queue: the invariant must not see the queue. -/
theorem step_keeps {P : State → Prop} (keeps : ∀ {s t : State}, RecordChange s t → P s → P t)
    (shorter : ∀ {s : State} {rest : List Instr}, P s → P { s with pending := rest }) (ht : step s = .next t)
    (h : P s) : P t := by
  unfold step at ht
  split at ht
  · cases ht; exact h
  · next c rest _ =>
    obtain ⟨u, hu, reach⟩ := exec_reaches c { s with pending := rest }
    rw [hu] at ht
    cases ht
    exact reach.keeps keeps (shorter h)

end Sys2Proof.Machine
end

-- ==== The queue of commands, and the Event Pool's partition (07) ====
section
/-! SUPPORT. The queue of commands stands through every change of the records, and each of the 24 event records keeps its
one place: what the taking of an outcome does to the Event Pool, and the obligations about both (logs 1 to 3; R124). -/

namespace Sys2Proof.Machine

variable {s t : State} {n : SlotNo} {a : Address}

/-! ## The queue of commands -/

theorem SlotChange.pending (h : SlotChange s n t) : t.pending = s.pending := by
  cases h <;> rfl

theorem RecordChange.pending (h : RecordChange s t) : t.pending = s.pending := by
  cases h with
  | stand h => exact h.pending
  | start h => exact h.pending
  | slot h => exact h.pending
  | station h => rfl
  | eventFree head => rfl
  | sendCancel idle head => rfl
  | sendRequest idle queued => rfl
  | sendPoll idle a =>
    show (s.reserve (s.pollKindFor a)).pending = s.pending
    cases s.pollKindFor a <;> rfl
  | settle flight o => exact (s.settle_control _ o).pending
  | expireDeadlines => rw [s.expireDeadlines_frame]
  | expireHolds => exact s.onStations_pending _
  | countDown =>
    have frame := s.countDown_frame
    rw [frame]

/-- Settles O1. -/
theorem stepRunsFrontCommandOrIdles : Obligations.StepRunsFrontCommandOrIdles := by
  refine ⟨fun c rest s queued => ?front, fun s empty => ?idle⟩
  case front => simp only [step, queued]
  case idle => simp only [step, empty]

/-- Settles O2: changes of the records reach the next state, and each leaves the queue of commands. -/
theorem everyCommandAnswersANextState : Obligations.EveryCommandAnswersANextState := by
  intro c s
  obtain ⟨t, ht, reach⟩ := exec_reaches c s
  refine ⟨t, ht, ?_⟩
  exact reach.keeps (P := fun u => u.pending = s.pending) (fun change before => change.pending.trans before) rfl

/-! ## What an outcome does to the Event Pool (R127 to R130) -/

section

variable (s n a)

@[simp] theorem State.completeSlot_eventPool (status : Status) (octet : Octet) (payload : List Octet) :
    (s.completeSlot n status octet payload).eventPool = s.eventPool := rfl

@[simp] theorem State.loseSlots_eventPool : (s.loseSlots a).eventPool = s.eventPool := by
  rw [s.loseSlots_eq, State.finishAll_frame]

@[simp] theorem State.acceptSlot_eventPool : (s.acceptSlot n).eventPool = s.eventPool := by
  unfold State.acceptSlot
  dsimp only
  split <;> rfl

@[simp] theorem State.retrySlot_eventPool (status : Status) : (s.retrySlot n status).eventPool = s.eventPool := by
  unfold State.retrySlot
  split <;> rfl

@[simp] theorem State.failRequest_eventPool (o : ExchangeOutcome) :
    (s.failRequest n o).eventPool = s.eventPool := by
  unfold State.failRequest
  split
  · split
    · exact s.retrySlot_eventPool n _
    · rfl
  · rfl
  all_goals exact s.retrySlot_eventPool n _

@[simp] theorem State.requestEffect_eventPool (o : ExchangeOutcome) :
    (s.requestEffect n o).eventPool = s.eventPool := by
  have counted : ∀ s1 : State, s1.eventPool = s.eventPool →
      State.eventPool (if o = .answer .accept then s1.acceptSlot n
        else if (s1.slot n).hostCancel then s1.endRequest n .cancelled 0 else s1.failRequest n o) = s.eventPool := by
    intro s1 h1
    split
    · exact (s1.acceptSlot_eventPool n).trans h1
    · split
      · exact h1
      · exact (s1.failRequest_eventPool n o).trans h1
  refine counted _ ?_
  split <;> rfl

@[simp] theorem State.takeReply_eventPool (tag : SlotNo) (octet : Octet) (payload : List Octet) :
    (s.takeReply a tag octet payload).eventPool = s.eventPool := by
  unfold State.takeReply
  dsimp only
  split
  · rfl
  · split <;> rfl

@[simp] theorem State.cancelUnanswered_eventPool : (s.cancelUnanswered n).eventPool = s.eventPool := by
  unfold State.cancelUnanswered
  dsimp only
  split <;> rfl

@[simp] theorem State.cancelEffect_eventPool (o : ExchangeOutcome) :
    (s.cancelEffect n o).eventPool = s.eventPool := by
  unfold State.cancelEffect
  dsimp only
  split
  · rfl
  · rfl
  · rfl
  all_goals exact State.cancelUnanswered_eventPool _ n

@[simp] theorem State.goOffline_eventPool : (s.goOffline a).eventPool = s.eventPool :=
  State.loseSlots_eventPool _ a

@[simp] theorem State.book_eventPool (x : Exchange) (o : ExchangeOutcome) :
    (s.book x o).eventPool = s.eventPool := by
  have silence : ∀ a, (s.bookSilence a).eventPool = s.eventPool := by
    intro a
    unfold State.bookSilence
    dsimp only
    split
    · exact State.goOffline_eventPool _ a
    · rfl
  cases o with
  | answer ans =>
    show (s.bookAnswer x ans).eventPool = s.eventPool
    unfold State.bookAnswer
    dsimp only
    split <;> rfl
  | noAnswer => exact silence x.station
  | checkError => exact silence x.station
  | protocolError => exact silence x.station
  | echoFault => rfl

end

/-! ### Where a valid EVENT goes (R120) -/

section

variable {e : EventAnswer} {r : RecordNo}

theorem State.takeEvent_queueA (h : e.decision.action = .queueA) :
    s.takeEvent (.any r) a e = s.fileEvent r a e .a := by
  simp [State.takeEvent, h]

theorem State.takeEvent_queueB (h : e.decision.action = .queueB) :
    s.takeEvent (.any r) a e = s.fileEvent r a e .b := by
  simp [State.takeEvent, h]

theorem State.takeEvent_discard (h : e.decision.action = .discard) :
    s.takeEvent (.any r) a e = s.returnReserved (.any r) := by
  simp [State.takeEvent, h]

theorem State.takeEvent_replyOnly : s.takeEvent .replyOnly a e = s := rfl

end

/-- The pool after the outcome of a POLL with record `r` reserved for it: the record on the free list again, unwritten, or
written and at the tail of a queue. -/
inductive RecordPlaced (r : RecordNo) (p : EventPool) : EventPool → Prop
  | returned : RecordPlaced r p (p.giveFree r)
  | filed (e : EventRecord) (q : EventQueue) :
      RecordPlaced r p (EventPool.setQueue q (p.queueOf q ++ [r]) { p with records := p.records.set r.val e })

theorem State.fileEvent_eventPool (s : State) (r : RecordNo) (a : Address) (e : EventAnswer) (q : EventQueue) :
    (s.fileEvent r a e q).eventPool =
      EventPool.setQueue q (s.eventPool.queueOf q ++ [r])
        { s.eventPool with records := s.eventPool.records.set r.val (e.record a q) } := by
  unfold State.fileEvent
  dsimp only
  split <;> rfl

/-- A POLL with a record reserved for it places the record, whatever its outcome. -/
theorem recordPlaced_pollEffect (s : State) (r : RecordNo) (a : Address) (o : ExchangeOutcome) :
    RecordPlaced r s.eventPool (s.pollEffect (.any r) a o).eventPool := by
  unfold State.pollEffect
  split
  · rw [State.takeReply_eventPool]
    exact .returned
  · next e =>
    cases action : e.decision.action with
    | queueA => rw [State.takeEvent_queueA action, State.fileEvent_eventPool]; exact .filed _ _
    | queueB => rw [State.takeEvent_queueB action, State.fileEvent_eventPool]; exact .filed _ _
    | discard => rw [State.takeEvent_discard action]; exact .returned
  all_goals exact .returned

theorem State.pollEffect_replyOnly_eventPool (s : State) (a : Address) (o : ExchangeOutcome) :
    (s.pollEffect .replyOnly a o).eventPool = s.eventPool := by
  unfold State.pollEffect
  split
  · rw [State.takeReply_eventPool]; rfl
  · rw [State.takeEvent_replyOnly]
  all_goals rfl

/-- The record that an exchange of a kind has reserved for it. -/
def ExchangeKind.reserved : ExchangeKind → Option RecordNo
  | .poll (.any r) _ => some r
  | .poll .replyOnly _ | .request _ | .cancel _ => none

theorem State.reserved_eq (s : State) : s.reserved = s.kindInFlight.bind ExchangeKind.reserved := by
  unfold State.reserved State.kindInFlight
  rcases s.lineScheduler.exchange with _ | ⟨k, a, f, p⟩
  · rfl
  · cases k with
    | poll k ack => cases k <;> rfl
    | request n => rfl
    | cancel n => rfl

theorem State.settle_eventPool_of_none (s : State) {x : Exchange} (o : ExchangeOutcome)
    (h : x.kind.reserved = none) : (s.settle x o).eventPool = s.eventPool := by
  unfold State.settle State.applyOutcome
  split
  · simp [State.endExchange]
  · simp [State.endExchange]
  · next k ack hk =>
    cases k with
    | replyOnly =>
      split
      · rfl
      · rw [State.book_eventPool, State.pollEffect_replyOnly_eventPool]; rfl
    | any r => simp [hk, ExchangeKind.reserved] at h

theorem recordPlaced_settle (s : State) {x : Exchange} (o : ExchangeOutcome) {r : RecordNo}
    (h : x.kind.reserved = some r) : RecordPlaced r s.eventPool (s.settle x o).eventPool := by
  unfold State.settle State.applyOutcome
  split
  · next hk => simp [hk, ExchangeKind.reserved] at h
  · next hk => simp [hk, ExchangeKind.reserved] at h
  · next k ack hk =>
    cases k with
    | replyOnly => simp [hk, ExchangeKind.reserved] at h
    | any r' =>
      obtain rfl : r' = r := by simpa [hk, ExchangeKind.reserved] using h
      split
      · exact .returned
      · rw [State.book_eventPool]
        exact recordPlaced_pollEffect s.endExchange r' x.station o

/-! ## The partition, by counting (R124) -/

/-- How many places the free list and the two queues give a record. -/
def EventPool.places (p : EventPool) (y : RecordNo) : Nat := p.free.count y + p.queueA.count y + p.queueB.count y

/-- The partition says of each record that it has one place, the reservation counted as one. -/
theorem poolPartition_iff :
    PoolPartition s ↔ ∀ y, s.eventPool.places y + (if s.reserved = some y then 1 else 0) = 1 := by
  have one : ∀ y : RecordNo, allRecords.count y = 1 := fun y =>
    List.count_eq_one_of_mem (List.nodup_finRange 24) (List.mem_finRange y)
  have reserved : ∀ y : RecordNo, s.reserved.toList.count y = if s.reserved = some y then 1 else 0 := by
    intro y
    cases s.reserved with
    | none => simp
    | some r => by_cases h : r = y <;> simp [h]
  simp only [PoolPartition, List.perm_iff_count, List.count_append, one, reserved, EventPool.places]

theorem PoolPartition.of_places (h : PoolPartition s)
    (places : ∀ y, t.eventPool.places y + (if t.reserved = some y then 1 else 0) =
      s.eventPool.places y + (if s.reserved = some y then 1 else 0)) : PoolPartition t :=
  poolPartition_iff.2 fun y => (places y).trans (poolPartition_iff.1 h y)

/-- Where the pool and the kind of the exchange in flight stand, the partition stands. -/
theorem PoolPartition.of_stand (h : PoolPartition s) (pool : t.eventPool = s.eventPool)
    (kind : t.kindInFlight = s.kindInFlight) : PoolPartition t :=
  h.of_places fun y => by rw [pool, t.reserved_eq, s.reserved_eq, kind]

/-- A record that was not free has one place more when it joins the free list. -/
theorem EventPool.places_giveFree {p : EventPool} {r : RecordNo} (nodup : p.free.Nodup) (apart : r ∉ p.free)
    (y : RecordNo) : (p.giveFree r).places y = p.places y + if r = y then 1 else 0 := by
  have grown := (EventPool.giveFree_perm nodup apart).count_eq y
  have a : (p.giveFree r).queueA = p.queueA := rfl
  have b : (p.giveFree r).queueB = p.queueB := rfl
  simp only [EventPool.places, grown, a, b, List.count_cons, beq_iff_eq]
  omega

theorem EventPool.places_takeFree {p : EventPool} {r : RecordNo} (nodup : p.free.Nodup) (free : r ∈ p.free)
    (y : RecordNo) : (p.takeFree r).places y + (if r = y then 1 else 0) = p.places y := by
  have a : (p.takeFree r).queueA = p.queueA := rfl
  have b : (p.takeFree r).queueB = p.queueB := rfl
  by_cases h : r = y
  · subst h
    have gone : (p.takeFree r).free.count r = 0 := List.count_eq_zero.2 fun member =>
      (EventPool.mem_takeFree.1 member).2 rfl
    simp only [EventPool.places, a, b, gone, List.count_eq_one_of_mem nodup free, if_true]
    omega
  · simp [EventPool.places, EventPool.takeFree, List.count_filter, h, Ne.symm h]

/-- A queue that gains or loses a record at one end: the others' places stand. -/
theorem EventPool.places_setQueue (q : EventQueue) (l : List RecordNo) (p : EventPool) (y : RecordNo) :
    (p.setQueue q l).places y + (p.queueOf q).count y = p.places y + l.count y := by
  cases q <;> simp only [EventPool.places, EventPool.setQueue, EventPool.queueOf] <;> omega

/-- The record reserved is on neither list. -/
theorem PoolPartition.reserved_not_free (h : PoolPartition s) {r : RecordNo} (reserved : s.reserved = some r) :
    r ∉ s.eventPool.free := by
  have one := poolPartition_iff.1 h r
  rw [if_pos reserved, EventPool.places] at one
  exact List.count_eq_zero.1 (by omega)

theorem RecordPlaced.places {r : RecordNo} {p p' : EventPool} (h : RecordPlaced r p p') (nodup : p.free.Nodup)
    (apart : r ∉ p.free) (y : RecordNo) : p'.places y = p.places y + if r = y then 1 else 0 := by
  cases h with
  | returned => exact EventPool.places_giveFree nodup apart y
  | filed e q =>
    have moved := EventPool.places_setQueue q (p.queueOf q ++ [r]) { p with records := p.records.set r.val e } y
    have stands : EventPool.queueOf q { p with records := p.records.set r.val e } = p.queueOf q := by cases q <;> rfl
    have written : EventPool.places { p with records := p.records.set r.val e } y = p.places y := rfl
    rw [stands, written, List.count_append, List.count_cons, List.count_nil] at moved
    simp only [beq_iff_eq] at moved
    omega

/-! ## The changes that move a record (R63, R123 to R131) -/

theorem PoolPartition.settle (h : PoolPartition s) {x : Exchange} (flight : s.lineScheduler.exchange = some x)
    (o : ExchangeOutcome) : PoolPartition (s.settle x o) := by
  have before : s.reserved = x.kind.reserved := by simp [s.reserved_eq, State.kindInFlight, flight]
  have after : (s.settle x o).reserved = none := by simp [State.reserved]
  refine h.of_places fun y => ?_
  rw [after, before]
  cases hr : x.kind.reserved with
  | none => rw [s.settle_eventPool_of_none o hr]
  | some r =>
    have placed := (recordPlaced_settle s o hr).places h.free_nodup (h.reserved_not_free (before.trans hr)) y
    simp [placed]

theorem PoolPartition.eventFree (h : PoolPartition s) {q : EventQueue} {r : RecordNo} {rest : List RecordNo}
    (head : s.eventPool.queueOf q = r :: rest) :
    PoolPartition (s.onPool fun p => (p.setQueue q rest).giveFree r) := by
  have apart : r ∉ s.eventPool.free := h.not_mem_free (q := q) (by simp [head])
  refine h.of_places fun y => ?_
  have grown := EventPool.places_giveFree (p := s.eventPool.setQueue q rest) (r := r)
    (by simpa using h.free_nodup) (by simpa using apart) y
  have left := EventPool.places_setQueue q rest s.eventPool y
  have reserved : (s.onPool fun p => (p.setQueue q rest).giveFree r).reserved = s.reserved := rfl
  rw [head, List.count_cons] at left
  simp only [beq_iff_eq] at left
  rw [State.onPool_eventPool, reserved, grown]
  omega

theorem PoolPartition.sendPoll (h : PoolPartition s) (idle : s.lineScheduler.exchange = none) (a : Address) :
    PoolPartition (s.sendPoll a) := by
  have before : s.reserved = none := by simp [State.reserved, idle]
  have after : (s.sendPoll a).reserved = (ExchangeKind.poll (s.pollKindFor a) (s.station a).ack).reserved := by
    rw [State.reserved_eq]; rfl
  have pool : (s.sendPoll a).eventPool = (s.reserve (s.pollKindFor a)).eventPool := rfl
  refine h.of_places fun y => ?_
  rw [before, after, pool]
  cases hk : s.pollKindFor a with
  | replyOnly => simp [ExchangeKind.reserved, State.reserve]
  | any r =>
    have free : r ∈ s.eventPool.free := by
      unfold State.pollKindFor at hk
      split at hk
      · split at hk
        · next lowest => cases hk; exact (EventPool.lowestFree_eq_some.1 lowest).1
        · cases hk
      · cases hk
    simpa [ExchangeKind.reserved, State.reserve] using EventPool.places_takeFree h.free_nodup free y

theorem PoolPartition.change (change : RecordChange s t) (h : PoolPartition s) : PoolPartition t := by
  cases change with
  | stand k => exact h.of_stand k.eventPool k.kind
  | start k =>
    have reserved : t.reserved = none := by simp [State.reserved, k.exchange]
    rw [PoolPartition, k.eventPool, reserved]
    exact List.Perm.of_eq (by simp [EventPool.initial, allRecords])
  | slot k => cases k <;> exact h.of_stand rfl rfl
  | station k => exact h.of_stand rfl rfl
  | eventFree head => exact h.eventFree head
  | sendCancel idle head => exact h.of_places fun y => by simp [State.reserved, State.sendCancel, State.launch, idle]
  | sendRequest idle queued => exact h.of_places fun y => by simp [State.reserved, State.sendRequest, State.launch, idle]
  | sendPoll idle a => exact h.sendPoll idle a
  | settle flight o => exact h.settle flight o
  | expireDeadlines =>
    have frame := s.expireDeadlines_frame
    exact h.of_stand (by rw [frame]) (State.kindInFlight_congr (by rw [frame]))
  | expireHolds =>
    exact h.of_stand (s.onStations_eventPool _) (State.kindInFlight_congr (s.onStations_lineScheduler _))
  | countDown =>
    have frame := s.countDown_frame
    exact h.of_stand (by rw [frame]) (State.kindInFlight_congr (by rw [frame]))

/-- Settles O57: each change of the records gives every event record as many places as it had. -/
theorem stepsKeepThePoolPartitioned : Obligations.StepsKeepThePoolPartitioned :=
  fun _ _ ht h => step_keeps PoolPartition.change (fun h => h.of_stand rfl rfl) ht h

end Sys2Proof.Machine
end

-- ==== What the taking of an outcome does to slots and stations (03 3.4, 04) ====
section
/-! SUPPORT. The slots, the stations' entries and the other blocks after each effect of an exchange's outcome (R37 to R41,
R66 to R72, R80 to R85, R92 to R102), in one equation each. -/

namespace Sys2Proof.Machine

variable (s : State) (n : SlotNo) (a : Address)

/-! ## The slot of a REQUEST (R37, R38, R52) -/

/-- The record after ACCEPT (R37). -/
theorem State.acceptSlot_slot (m : SlotNo) :
    (s.acceptSlot n).slot m =
      if m = n then { s.slot n with state := if (s.slot n).hostCancel then .cancelling else .waiting } else s.slot m := by
  unfold State.acceptSlot
  dsimp only
  cases host : (s.slot n).hostCancel <;> by_cases h : m = n <;> simp [h, host]

theorem State.acceptSlot_station (b : Address) :
    (s.acceptSlot n).station b =
      if b = (s.slot n).address then { s.station b with outstanding := (s.station b).outstanding + 1 }
      else s.station b := by
  unfold State.acceptSlot
  dsimp only
  cases host : (s.slot n).hostCancel <;> by_cases h : b = (s.slot n).address <;> simp [h]

/-- What ACCEPT changes, apart from its slot's record and its station's entry. -/
theorem State.acceptSlot_frame :
    s.acceptSlot n =
      { s with
        slotTable := (s.acceptSlot n).slotTable
        dispatchQueue := closeHeldPlace s.dispatchQueue
        cancelList := if (s.slot n).hostCancel then s.cancelList ++ [n] else s.cancelList
        stationTable := { s.stationTable with entries := (s.acceptSlot n).stationTable.entries } } := by
  unfold State.acceptSlot
  dsimp only
  cases host : (s.slot n).hostCancel <;> rfl

theorem State.requeueSlot_slot (m : SlotNo) :
    (s.requeueSlot n).slot m = if m = n then { s.slot n with state := .queued } else s.slot m :=
  s.modifySlot_slot n (fun r => { r with state := .queued }) m

theorem State.endRequest_slot (status : Status) (octet : Octet) (m : SlotNo) :
    (s.endRequest n status octet).slot m =
      if m = n then (s.slot n).finished status octet [] s.lineEngine.clock else s.slot m :=
  (s.onDispatch closeHeldPlace).finishSlot_slot n status octet [] m

/-! ## The station's books (R80 to R83) -/

/-- The entry after a valid answer (R80, R82, R87). -/
def Station.answered (holdoff : Nat) (kind : ExchangeKind) (ans : Answer) (e : Station) : Station :=
  Station.startHold holdoff ans
    { e with
      state := if e.state = .unknown then .active else e.state, noAnswer := 0, ack := nextAck kind e.ack ans }

/-- A valid answer touches the entry and, where the station was UNKNOWN, the change set. -/
theorem State.bookAnswer_eq (x : Exchange) (ans : Answer) :
    s.bookAnswer x ans =
      (s.modifyStation x.station (Station.answered s.stationTable.holdoff x.kind ans)).onStations
        fun t => if (s.station x.station).state = .unknown then t.noteChange x.station else t := by
  unfold State.bookAnswer
  dsimp only
  split <;> rfl

theorem State.bookAnswer_slot (x : Exchange) (ans : Answer) (m : SlotNo) :
    (s.bookAnswer x ans).slot m = s.slot m := by
  rw [s.bookAnswer_eq, State.onStations_slot, State.modifyStation_slot]

theorem State.bookAnswer_station (x : Exchange) (ans : Answer) (b : Address) :
    (s.bookAnswer x ans).station b =
      if b = x.station then (s.station b).answered s.stationTable.holdoff x.kind ans else s.station b := by
  have entries : ∀ u : State,
      (u.onStations fun t => if (s.station x.station).state = .unknown then t.noteChange x.station else t).station b =
        u.station b := fun u => by
    unfold State.onStations
    split <;> rfl
  rw [s.bookAnswer_eq, entries]
  by_cases h : b = x.station <;> simp [h]

/-- The entry after an exchange without a valid answer (R83). -/
def Station.unanswered (e : Station) : Station := { e with noAnswer := e.noAnswer + 1 }

/-- Below the no-answer limit an exchange without a valid answer adds to the count, and no more (R83). -/
theorem State.bookSilence_below (h : (s.station a).noAnswer + 1 < s.stationTable.noAnswerLimit) :
    s.bookSilence a = s.modifyStation a Station.unanswered := by
  unfold State.bookSilence
  dsimp only
  rw [if_neg]
  · rfl
  · simp only [State.modifyStation_noAnswerLimit, State.modifyStation_station_self]
    omega

/-- At the no-answer limit the station is lost (R85). -/
theorem State.bookSilence_lost (h : s.stationTable.noAnswerLimit ≤ (s.station a).noAnswer + 1) :
    s.bookSilence a = (s.modifyStation a Station.unanswered).goOffline a := by
  unfold State.bookSilence
  dsimp only
  rw [if_pos]
  · rfl
  · simpa using h

/-! ## The loss of a station (R42, R85, R105) -/

theorem State.loseSlots_slot (m : SlotNo) :
    (s.loseSlots a).slot m =
      if m ∈ s.lostSlots a then (s.slot m).finished .stationLost 0 [] s.lineEngine.clock else s.slot m :=
  (congrArg (·.slot m) (s.loseSlots_eq a)).trans
    (State.finishAll_slot .stationLost 0 [] (s.lostSlots_nodup a) s m)

theorem State.loseSlots_station (b : Address) :
    (s.loseSlots a).station b =
      { s.station b with
        outstanding :=
          (s.station b).outstanding -
            ((s.lostSlots a).filter fun n => (s.slot n).address = b ∧ (s.slot n).state.held = true).length
        quarantine := ((s.loseSlots a).station b).quarantine } := by
  have same : (s.loseSlots a).station b = (s.finishAll .stationLost 0 [] (s.lostSlots a)).station b :=
    congrArg (·.station b) (s.loseSlots_eq a)
  rw [same]
  exact State.finishAll_station .stationLost 0 [] (s.lostSlots_nodup a) s b

theorem State.loseSlots_quarantine (b : Address) (m : SlotNo) :
    ((s.loseSlots a).station b).quarantine.getLsbD m.val =
      ((s.station b).quarantine.getLsbD m.val ||
        decide (m ∈ s.lostSlots a ∧ (s.slot m).address = b ∧ (s.slot m).state.held = true)) := by
  have same : (s.loseSlots a).station b = (s.finishAll .stationLost 0 [] (s.lostSlots a)).station b :=
    congrArg (·.station b) (s.loseSlots_eq a)
  rw [same, State.finishAll_quarantine .stationLost 0 [] (s.lostSlots_nodup a) s b m]
  simp

/-- The entry of a station that goes OFFLINE (R85). -/
def Station.offline (e : Station) : Station :=
  { e with state := .offline, holdRemaining := 0, holdDue := false, ack := .noAck }

/-- The move to OFFLINE: the lost slots' completion, the entry and the change set (R85). -/
theorem State.goOffline_eq :
    s.goOffline a =
      (((s.modifyStation a fun e => { e with state := .offline }).loseSlots a).modifyStation a fun e =>
        { e with holdRemaining := 0, holdDue := false, ack := .noAck }).onStations (StationTable.noteChange a) := rfl

theorem State.goOffline_slot (m : SlotNo) :
    (s.goOffline a).slot m =
      if m ∈ s.lostSlots a then (s.slot m).finished .stationLost 0 [] s.lineEngine.clock else s.slot m :=
  State.loseSlots_slot (s.modifyStation a fun e => { e with state := .offline }) a m

theorem State.goOffline_station_self :
    (s.goOffline a).station a = ((s.loseSlots a).station a).offline := by
  have through : (s.goOffline a).station a =
      { (((s.modifyStation a fun e => { e with state := .offline }).loseSlots a).station a) with
        holdRemaining := 0, holdDue := false, ack := .noAck } :=
    State.modifyStation_station_self _ a fun e => { e with holdRemaining := 0, holdDue := false, ack := .noAck }
  have offline : (s.modifyStation a fun e => { e with state := .offline }).station a =
      { s.station a with state := .offline } := s.modifyStation_station_self a fun e => { e with state := .offline }
  have quarantine : (((s.modifyStation a fun e => { e with state := .offline }).loseSlots a).station a).quarantine =
      ((s.loseSlots a).station a).quarantine := by
    refine BitVec.eq_of_getLsbD_eq fun i hi => ?_
    have lost := State.loseSlots_quarantine (s.modifyStation a fun e => { e with state := .offline }) a a ⟨i, hi⟩
    rw [offline] at lost
    exact lost.trans (s.loseSlots_quarantine a a ⟨i, hi⟩).symm
  rw [through, State.loseSlots_station, quarantine, offline, s.loseSlots_station a a]
  rfl

theorem State.goOffline_station_ne {b : Address} (h : b ≠ a) :
    (s.goOffline a).station b = (s.loseSlots a).station b := by
  have through : (s.goOffline a).station b =
      ((s.modifyStation a fun e => { e with state := .offline }).loseSlots a).station b :=
    State.modifyStation_station_ne _ a (fun e => { e with holdRemaining := 0, holdDue := false, ack := .noAck }) h
  have offline : (s.modifyStation a fun e => { e with state := .offline }).station b = s.station b :=
    s.modifyStation_station_ne a (fun e => { e with state := .offline }) h
  have quarantine : (((s.modifyStation a fun e => { e with state := .offline }).loseSlots a).station b).quarantine =
      ((s.loseSlots a).station b).quarantine := by
    refine BitVec.eq_of_getLsbD_eq fun i hi => ?_
    have lost := State.loseSlots_quarantine (s.modifyStation a fun e => { e with state := .offline }) a b ⟨i, hi⟩
    rw [offline] at lost
    exact lost.trans (s.loseSlots_quarantine a b ⟨i, hi⟩).symm
  rw [through, State.loseSlots_station, quarantine, offline, s.loseSlots_station a b]
  rfl

end Sys2Proof.Machine
end

-- ==== What each slot's record holds in each state (02) ====
section
/-! SUPPORT. The lists agree and the records are sound through every change of the records, the taking of an outcome slot
by slot (R25, R26, R29). -/

namespace Sys2Proof.Machine

variable {s t : State} {n : SlotNo} {a : Address} {r : Slot}

/-! ## The lists, change by change -/

/-- Every test of POST passed (R33). -/
theorem State.postRefusal_eq_none (passed : s.postRefusal n = none) :
    (s.slot n).state = .owned ∧ 1 ≤ (s.slot n).station.toNat ∧ (s.slot n).station.toNat ≤ 31 ∧
      (s.slot n).retryLimit.toNat ≤ 7 ∧ (s.station (s.slot n).address).state.served = true ∧
      (s.station (s.slot n).address).quarantine.getLsbD n.val = false := by
  unfold State.postRefusal at passed
  dsimp only at passed
  split_ifs at passed with owned station priority retryLimit requestLength served quarantine
  refine ⟨not_not.1 owned, station.1, station.2, not_lt.1 retryLimit, ?_, ?_⟩
  · simpa using served
  · exact Bool.eq_false_iff.2 quarantine

theorem SlotListsAgree.slotChange (change : SlotChange s n t) (h : SlotListsAgree s) : SlotListsAgree t := by
  cases change with
  | allocate free => exact h.of_move rfl fun agree => agree.modifySlot_idle (.inl free) (.inr rfl) rfl
  | hostWord owned written =>
    obtain ⟨state, inFlight⟩ := Slot.writeWord_stands written
    exact h.of_stand (SlotsStand.modifySlot s _ state inFlight) rfl
  | enqueue passed => exact h.of_move rfl fun agree => agree.enqueue (State.postRefusal_eq_none passed).1
  | release owned =>
    refine h.of_move rfl fun agree => agree.modifySlot_idle (.inr owned) (.inl rfl) ?_
    exact (agree.not_inFlight (by simp [owned]) (by simp [owned])).2.1
  | retire done => exact h.of_move rfl fun agree => agree.retire done
  | cancelQueued queued =>
    refine h.of_move rfl fun agree => ?_
    obtain ⟨request, -, cancel⟩ := agree.not_inFlight (n := n) (by simp [queued]) (by simp [queued])
    exact agree.completeSlot (by simp [queued]) request cancel _ _ _
  | cancelSending sending => exact h.of_stand (SlotsStand.modifySlot s n rfl rfl) rfl
  | cancelWaiting waiting => exact h.of_move rfl fun agree => agree.cancelWaiting waiting
  | abandon cancelling idle =>
    refine h.of_move rfl fun agree => agree.completeSlot (by simp [cancelling]) ?_ ?_ _ _ _
    · exact fun e => by simpa [cancelling] using (agree.slots n).sending.2 e
    · exact fun e => idle ((agree.slots n).inFlight.2 e)

theorem SlotListsAgree.change (change : RecordChange s t) (h : SlotListsAgree s) : SlotListsAgree t := by
  cases change with
  | stand k =>
    exact h.of_stand ⟨fun m => by rw [k.slot m], fun m => by rw [k.slot m], k.dispatchQueue, k.cancelList,
      k.completion⟩ k.kind
  | start k =>
    exact slotListsAgree_of_empty (fun m => by rw [k.slot m]; exact ⟨rfl, rfl⟩) k.dispatchQueue k.cancelList
      k.completion k.exchange
  | slot k => exact h.slotChange k
  | station k => exact h.modifyStation _ _
  | eventFree head => exact h.of_stand ⟨fun _ => rfl, fun _ => rfl, rfl, rfl, rfl⟩ rfl
  | sendCancel idle head => exact slotListsAgree_sendCancel (h.of_idle idle) head
  | sendRequest idle queued => exact slotListsAgree_sendRequest (h.of_idle idle) queued
  | sendPoll idle a => exact slotListsAgree_sendPoll (h.of_idle idle) a
  | settle flight o => exact h.settle flight o
  | expireDeadlines => exact h.expireDeadlines
  | expireHolds => exact h.onStations _
  | countDown => exact h.countDown

/-- The slot of a REQUEST in flight is SENDING, that of a CANCEL in flight CANCELLING, and no other slot is SENDING. -/
theorem SlotListsAgree.inFlight (h : SlotListsAgree s) {x : Exchange} (flight : s.lineScheduler.exchange = some x) :
    (∀ m, (s.slot m).state = .sending ↔ x.kind = .request m) ∧
      ∀ m, x.kind = .cancel m → (s.slot m).state = .cancelling := by
  have kind : s.kindInFlight = some x.kind := by simp [State.kindInFlight, flight]
  have agree := slotListsAgree_iff_kind.1 h
  rw [kind] at agree
  refine ⟨fun m => (agree.slots m).sending.trans ?_, fun m hm => ?_⟩
  · cases hk : x.kind <;> simp [ExchangeKind.requestSlot]
  · exact (agree.slots m).cancelling ((agree.slots m).inFlight.2 (by simp [hm, ExchangeKind.cancelSlot]))

/-! ## One record (R25, R26, R29) -/

/-- A record that is FREE or DONE is bounded by its counts alone. -/
theorem Slot.sound_of_idle (state : r.state = .free ∨ r.state = .done) (attempts : r.attempts ≤ 8)
    (cancels : r.cancelAttempts ≤ 3) : r.Sound := by
  rcases state with e | e <;> simp [Slot.Sound, e, SlotState.live, attempts, cancels]

theorem Slot.Sound.bounded (h : r.Sound) : r.attempts ≤ 8 ∧ r.cancelAttempts ≤ 3 := by
  obtain ⟨-, -, -, -, -, -, attempts, -, -, cancels⟩ := h
  exact ⟨attempts, cancels⟩

/-- A record that becomes DONE is sound, whatever it stores. -/
theorem Slot.sound_finished (bounded : r.attempts ≤ 8 ∧ r.cancelAttempts ≤ 3) (status : Status) (octet : Octet)
    (payload : List Octet) (clock : Word) : (r.finished status octet payload clock).Sound :=
  Slot.sound_of_idle (.inr rfl) bounded.1 bounded.2

theorem Slot.sound_zero : Slot.zero.Sound := Slot.sound_of_idle (.inl rfl) (by decide) (by decide)

theorem Slot.sound_allocated (r : Slot) : r.allocated.Sound := by
  simp [Slot.Sound, Slot.allocated, Slot.zero, SlotState.live]

/-- The host's write of a word leaves what an OWNED record has to hold (R24). -/
theorem Slot.Sound.hostWord (h : r.Sound) (owned : r.state = .owned) {k : Fin 80} {w : Word} {r' : Slot}
    (written : r.writeWord k w = some r') : r'.Sound := by
  unfold Slot.writeWord at written
  split at written
  case h_6 =>
    split at written
    · cases written; simpa [Slot.Sound, owned] using h
    · cases written
  all_goals cases written; simpa [Slot.Sound, owned] using h

/-- POST queues a record with no attempt made and a legal retry limit (R34). -/
theorem Slot.Sound.enqueued (h : r.Sound) (owned : r.state = .owned) (limit : r.retryLimit.toNat ≤ 7)
    (postNumber : Word) :
    Slot.Sound { r with state := .queued, postNumber := postNumber, deadlineRemaining := r.deadline } := by
  simp only [Slot.Sound, owned] at h
  simp_all [Slot.Sound, SlotState.live]

/-- CANCEL of a WAITING slot: host-cancel set, deadline-expired clear (R44). -/
theorem Slot.Sound.cancelled (h : r.Sound) (waiting : r.state = .waiting) :
    Slot.Sound { r with state := .cancelling, hostCancel := true } := by
  simp only [Slot.Sound, waiting] at h
  simp_all [Slot.Sound, SlotState.live]

/-- The expiry of a deadline: deadline-expired set, host-cancel clear (R40). -/
theorem Slot.Sound.expired (h : r.Sound) (waiting : r.state = .waiting) : r.expired.Sound := by
  simp only [Slot.Sound, waiting] at h
  simp_all [Slot.Sound, Slot.expired, SlotState.live]

theorem Slot.Sound.cancelSending (h : r.Sound) (sending : r.state = .sending) :
    Slot.Sound { r with hostCancel := true } := by
  simp only [Slot.Sound, sending] at h
  simp_all [Slot.Sound]

theorem Slot.Sound.sent (h : r.Sound) (queued : r.state = .queued) : Slot.Sound { r with state := .sending } := by
  simp only [Slot.Sound, queued] at h
  simp_all [Slot.Sound, SlotState.live]

/-- The cancel-in-flight flag, the deadline remaining and the request's words are no part of a record's soundness. -/
theorem Slot.Sound.withCancelInFlight (h : r.Sound) (b : Bool) : Slot.Sound { r with cancelInFlight := b } := h

theorem Slot.Sound.countDown (h : r.Sound) : r.countDown.Sound := by
  unfold Slot.countDown
  split
  · exact h
  · exact h

/-- A CANCELLING record has at most two unanswered cancels, so that one more is the third, or leaves it sound (R101). -/
theorem Slot.Sound.unanswered (h : r.Sound) (cancelling : r.state = .cancelling) :
    (r.attempts ≤ 8 ∧ r.cancelAttempts + 1 ≤ 3) ∧
      (r.cancelAttempts + 1 < 3 → Slot.Sound { r with cancelAttempts := r.cancelAttempts + 1 }) := by
  simp only [Slot.Sound, cancelling] at h
  simp_all [Slot.Sound]
  omega

/-- What a SENDING record holds once its transmission has been counted (R25). -/
structure Slot.Sent (r : Slot) : Prop where
  sending  : r.state = .sending
  blank    : r.status = .noStatus ∧ r.replyStatus = 0 ∧ r.replyLength = 0 ∧ r.reply = Vector.replicate 32 0
  deadline : r.deadlineExpired = false
  cancels  : r.cancelAttempts = 0
  limit    : r.retryLimit.toNat ≤ 7
  attempts : r.attempts ≤ 8

theorem Slot.Sound.counted (h : r.Sound) (sending : r.state = .sending) :
    r.Sent ∧ Slot.Sent { r with attempts := r.attempts + 1 } ∧ r.attempts ≤ r.retryLimit.toNat := by
  simp only [Slot.Sound, sending] at h
  obtain ⟨blank, -, deadline, -, -, limits, attempts, cancels, -, -⟩ := h
  simp only [SlotState.live, or_true, forall_const, reduceCtorEq, or_false] at *
  obtain ⟨within, limit⟩ := limits
  refine ⟨⟨sending, blank, deadline, cancels, limit, attempts⟩, ⟨sending, blank, deadline, cancels, limit, ?_⟩, within⟩
  show r.attempts + 1 ≤ 8
  omega

theorem Slot.Sent.bounded (h : r.Sent) : r.attempts ≤ 8 ∧ r.cancelAttempts ≤ 3 :=
  ⟨h.attempts, by rw [h.cancels]; omega⟩

/-- ACCEPT: WAITING, or CANCELLING with host-cancel alone set (R37). -/
theorem Slot.Sent.accepted (h : r.Sent) :
    Slot.Sound { r with state := if r.hostCancel then .cancelling else .waiting } := by
  obtain ⟨-, blank, deadline, cancels, limit, attempts⟩ := h
  cases host : r.hostCancel <;> simp [Slot.Sound, SlotState.live, *]

/-- A SENDING slot is QUEUED again only within its retry limit, with host-cancel clear (R38). -/
theorem Slot.Sent.requeued (h : r.Sent) (host : r.hostCancel = false) (within : r.attempts ≤ r.retryLimit.toNat) :
    Slot.Sound { r with state := .queued } := by
  obtain ⟨-, blank, deadline, cancels, limit, attempts⟩ := h
  simp [Slot.Sound, SlotState.live, *]

/-! ## The records through the effects of an outcome (R66) -/

theorem RecordsSound.of_slots (h : RecordsSound s) (slots : ∀ m, t.slot m = s.slot m) : RecordsSound t :=
  fun m => by rw [slots m]; exact h m

/-- Where one slot alone changes, it alone is to be judged. -/
theorem RecordsSound.of_slot (h : RecordsSound s) (others : ∀ m, m ≠ n → t.slot m = s.slot m)
    (own : (t.slot n).Sound) : RecordsSound t := fun m => by
  by_cases e : m = n
  · exact e ▸ own
  · rw [others m e]; exact h m

theorem RecordsSound.modifySlot (h : RecordsSound s) {f : Slot → Slot} (own : (f (s.slot n)).Sound) :
    RecordsSound (s.modifySlot n f) :=
  h.of_slot (fun _ hm => s.modifySlot_slot_ne n f hm) (by rwa [State.modifySlot_slot_self])

theorem RecordsSound.completeSlot (h : RecordsSound s) (n : SlotNo) (status : Status) (octet : Octet)
    (payload : List Octet) : RecordsSound (s.completeSlot n status octet payload) :=
  h.of_slot (n := n) (fun _ hm => s.completeSlot_slot_ne n status octet payload hm)
    (by rw [State.completeSlot_slot_self]; exact Slot.sound_finished (h n).bounded _ _ _ _)

/-- Every record but that of slot `n` is sound. -/
abbrev OthersSound (n : SlotNo) (s : State) : Prop := ∀ m, m ≠ n → (s.slot m).Sound

theorem OthersSound.acceptSlot (h : OthersSound n s) (sent : (s.slot n).Sent) : RecordsSound (s.acceptSlot n) := by
  intro m
  rw [s.acceptSlot_slot]
  split
  · exact sent.accepted
  · next hm => exact h m hm

theorem OthersSound.requeueSlot (h : OthersSound n s) (sent : (s.slot n).Sent)
    (host : (s.slot n).hostCancel = false) (within : (s.slot n).attempts ≤ (s.slot n).retryLimit.toNat) :
    RecordsSound (s.requeueSlot n) := by
  intro m
  rw [s.requeueSlot_slot]
  split
  · exact sent.requeued host within
  · next hm => exact h m hm

theorem OthersSound.endRequest (h : OthersSound n s) (sent : (s.slot n).Sent) (status : Status) (octet : Octet) :
    RecordsSound (s.endRequest n status octet) := by
  intro m
  rw [s.endRequest_slot]
  split
  · exact Slot.sound_finished sent.bounded _ _ _ _
  · next hm => exact h m hm

theorem OthersSound.retrySlot (h : OthersSound n s) (sent : (s.slot n).Sent) (host : (s.slot n).hostCancel = false)
    (status : Status) : RecordsSound (s.retrySlot n status) := by
  unfold State.retrySlot
  split
  · next within => exact h.requeueSlot sent host within
  · exact h.endRequest sent status 0

theorem OthersSound.failRequest (h : OthersSound n s) (sent : (s.slot n).Sent) (host : (s.slot n).hostCancel = false)
    {o : ExchangeOutcome} (echo : o = .echoFault → (s.slot n).attempts ≤ (s.slot n).retryLimit.toNat) :
    RecordsSound (s.failRequest n o) := by
  unfold State.failRequest
  split
  · split
    · exact h.retrySlot sent host .refused
    · exact h.endRequest sent .rejected _
  · exact h.requeueSlot sent host (echo rfl)
  all_goals exact h.retrySlot sent host .noAnswer

theorem RecordsSound.requestEffect (h : RecordsSound s) (sending : (s.slot n).state = .sending) (o : ExchangeOutcome) :
    RecordsSound (s.requestEffect n o) := by
  obtain ⟨sent, counted, within⟩ := (h n).counted sending
  have effect : ∀ u : State, OthersSound n u → (u.slot n).Sent →
      (o = .echoFault → (u.slot n).attempts ≤ (u.slot n).retryLimit.toNat) → RecordsSound
      (if o = .answer .accept then u.acceptSlot n
        else if (u.slot n).hostCancel then u.endRequest n .cancelled 0 else u.failRequest n o) := by
    intro u others sent echo
    split
    · exact others.acceptSlot sent
    · split
      · exact others.endRequest sent .cancelled 0
      · next host => exact others.failRequest sent (by simpa using host) echo
  refine effect _ ?_ ?_ ?_
  · intro m hm
    split
    · exact h m
    · rw [s.modifySlot_slot_ne n _ hm]; exact h m
  · split
    · exact sent
    · rw [State.modifySlot_slot_self]; exact counted
  · intro echo
    rw [if_pos echo]
    exact within

theorem RecordsSound.cancelUnanswered (h : RecordsSound s) (cancelling : (s.slot n).state = .cancelling) :
    RecordsSound (s.cancelUnanswered n) := by
  obtain ⟨bounded, again⟩ := (h n).unanswered cancelling
  unfold State.cancelUnanswered
  dsimp only
  split
  · refine h.of_slot (n := n) (fun m hm => ?_) ?_
    · rw [State.completeSlot_slot_ne _ _ _ _ _ hm, State.modifySlot_slot_ne _ _ _ hm]
    · rw [State.completeSlot_slot_self, State.modifySlot_slot_self]
      exact Slot.sound_finished (r := { s.slot n with cancelAttempts := (s.slot n).cancelAttempts + 1 }) bounded _ _ _ _
  · next fewer =>
    simp only [State.modifySlot_slot_self, Config.maxCancelAttempts, not_le] at fewer
    exact h.modifySlot (f := fun r => { r with cancelAttempts := r.cancelAttempts + 1 }) (again fewer)

theorem RecordsSound.cancelEffect (h : RecordsSound s) (cancelling : (s.slot n).state = .cancelling)
    (o : ExchangeOutcome) : RecordsSound (s.cancelEffect n o) := by
  have landed : RecordsSound (s.modifySlot n fun r => { r with cancelInFlight := false }) :=
    h.modifySlot ((h n).withCancelInFlight false)
  have still : ((s.modifySlot n fun r => { r with cancelInFlight := false }).slot n).state = .cancelling := by
    simpa using cancelling
  unfold State.cancelEffect
  dsimp only
  split
  · exact landed.completeSlot n _ _ _
  · exact landed.completeSlot n _ _ _
  · exact landed.of_slots fun _ => rfl
  all_goals exact landed.cancelUnanswered still

theorem State.returnReserved_slot (s : State) (k : PollKind) (m : SlotNo) :
    (s.returnReserved k).slot m = s.slot m := by
  cases k <;> rfl

theorem RecordsSound.returnReserved (h : RecordsSound s) (k : PollKind) : RecordsSound (s.returnReserved k) :=
  h.of_slots (s.returnReserved_slot k)

theorem RecordsSound.takeReply (h : RecordsSound s) (a : Address) (tag : SlotNo) (octet : Octet)
    (payload : List Octet) : RecordsSound (s.takeReply a tag octet payload) := by
  unfold State.takeReply
  dsimp only
  split
  · exact h.completeSlot tag _ _ _
  · split
    · exact h.completeSlot tag _ _ _
    · exact h.of_slots fun _ => rfl

theorem State.takeEvent_slot (s : State) (k : PollKind) (a : Address) (e : EventAnswer) (m : SlotNo) :
    (s.takeEvent k a e).slot m = s.slot m := by
  have file : ∀ r q, (s.fileEvent r a e q).slot m = s.slot m := by
    intro r q
    unfold State.fileEvent
    dsimp only
    split <;> rfl
  unfold State.takeEvent
  split
  · exact file _ _
  · exact file _ _
  · exact s.returnReserved_slot _ m

theorem RecordsSound.pollEffect (h : RecordsSound s) (k : PollKind) (a : Address) (o : ExchangeOutcome) :
    RecordsSound (s.pollEffect k a o) := by
  unfold State.pollEffect
  split
  · exact (h.returnReserved k).takeReply a _ _ _
  · exact h.of_slots (s.takeEvent_slot k a _)
  all_goals exact h.returnReserved k

theorem RecordsSound.goOffline (h : RecordsSound s) (a : Address) : RecordsSound (s.goOffline a) := by
  intro m
  rw [s.goOffline_slot]
  split
  · exact Slot.sound_finished (h m).bounded _ _ _ _
  · exact h m

theorem RecordsSound.bookSilence (h : RecordsSound s) (a : Address) : RecordsSound (s.bookSilence a) := by
  have counted : RecordsSound (s.modifyStation a Station.unanswered) := h.of_slots fun _ => rfl
  rcases lt_or_ge ((s.station a).noAnswer + 1) s.stationTable.noAnswerLimit with below | lost
  · rw [s.bookSilence_below a below]; exact counted
  · rw [s.bookSilence_lost a lost]; exact counted.goOffline a

theorem RecordsSound.book (h : RecordsSound s) (x : Exchange) (o : ExchangeOutcome) : RecordsSound (s.book x o) := by
  cases o with
  | answer ans => exact h.of_slots (s.bookAnswer_slot x ans)
  | noAnswer => exact h.bookSilence x.station
  | checkError => exact h.bookSilence x.station
  | protocolError => exact h.bookSilence x.station
  | echoFault => exact h

theorem RecordsSound.settle (h : RecordsSound s) (lists : SlotListsAgree s) {x : Exchange}
    (flight : s.lineScheduler.exchange = some x) (o : ExchangeOutcome) : RecordsSound (s.settle x o) := by
  obtain ⟨sending, cancelling⟩ := lists.inFlight flight
  have ended : RecordsSound s.endExchange := h.of_slots fun _ => rfl
  unfold State.settle State.applyOutcome
  cases hk : x.kind with
  | request n => exact (ended.requestEffect ((sending n).2 hk) o).book x o
  | cancel n => exact (ended.cancelEffect (cancelling n hk) o).book x o
  | poll k ack =>
    dsimp only
    split
    · exact ended.returnReserved k
    · exact (ended.pollEffect k x.station o).book x o

/-! ## Every change -/

theorem RecordsSound.slotChange (change : SlotChange s n t) (h : RecordsSound s) : RecordsSound t := by
  cases change with
  | allocate free => exact h.modifySlot (Slot.sound_allocated _)
  | hostWord owned written => exact h.modifySlot ((h n).hostWord owned written)
  | enqueue passed =>
    obtain ⟨owned, -, -, limit, -, -⟩ := State.postRefusal_eq_none passed
    exact h.modifySlot (f := fun r =>
      { r with state := .queued, postNumber := s.slotTable.postCounter, deadlineRemaining := r.deadline })
      ((h n).enqueued owned limit _)
  | release owned => exact h.modifySlot (Slot.sound_of_idle (.inl rfl) (h n).bounded.1 (h n).bounded.2)
  | retire done =>
    exact h.modifySlot (f := fun r => { r with state := .free })
      (Slot.sound_of_idle (.inl rfl) (h n).bounded.1 (h n).bounded.2)
  | cancelQueued queued => exact h.completeSlot n _ _ _
  | cancelSending sending => exact h.modifySlot ((h n).cancelSending sending)
  | cancelWaiting waiting =>
    exact h.modifySlot (f := fun r => { r with state := .cancelling, hostCancel := true }) ((h n).cancelled waiting)
  | abandon cancelling idle => exact h.completeSlot n _ _ _

theorem RecordsSound.change (change : RecordChange s t) (lists : SlotListsAgree s) (h : RecordsSound s) :
    RecordsSound t := by
  cases change with
  | stand k => exact h.of_slots k.slot
  | start k => exact fun m => by rw [k.slot m]; exact Slot.sound_zero
  | slot k => exact h.slotChange k
  | station k => exact h.of_slots fun _ => rfl
  | eventFree head => exact h.of_slots fun _ => rfl
  | @sendCancel n idle head =>
    exact h.modifySlot (n := n) (f := fun r => { r with cancelInFlight := true }) ((h n).withCancelInFlight true)
  | @sendRequest n idle queued =>
    exact h.modifySlot (n := n) (f := fun r => { r with state := .sending }) ((h n).sent queued)
  | sendPoll idle a =>
    refine h.of_slots fun m => ?_
    show (s.reserve (s.pollKindFor a)).slot m = s.slot m
    cases s.pollKindFor a <;> rfl
  | settle flight o => exact h.settle lists flight o
  | expireDeadlines =>
    intro m
    rw [s.expireDeadlines_slot]
    split
    · next due =>
      have waiting : (s.slot m).state = .waiting := by simp_all [Slot.deadlineDue]
      exact (h m).expired waiting
    · exact h m
  | expireHolds => exact h.of_slots (s.onStations_slot _)
  | countDown => exact fun m => by rw [s.countDown_slot]; exact (h m).countDown

/-- Settles O59: the lists say which record each change meets, and each change leaves that record sound. -/
theorem stepsKeepRecordsSound : Obligations.StepsKeepRecordsSound := fun _ _ ht h =>
  (step_keeps (P := fun u => SlotListsAgree u ∧ RecordsSound u)
    (fun change ⟨lists, sound⟩ => ⟨lists.change change, sound.change change lists⟩)
    (fun ⟨lists, sound⟩ =>
      ⟨lists.of_stand ⟨fun _ => rfl, fun _ => rfl, rfl, rfl, rfl⟩ rfl, sound.of_slots fun _ => rfl⟩) ht h).2

end Sys2Proof.Machine
end

-- ==== Stations and their transactions (03, 04) ====
section
/-! SUPPORT. The stations agree with the live slots through every change of the records. A change is judged at the one slot it
moves, the count of the slots held at a station by what that slot adds to it or takes from it (R54, R75, R77, R105). -/

namespace Sys2Proof.Machine

variable {s t : State} {n : SlotNo} {a : Address} {r : Slot}

/-! ## Counting the slots that a station holds (R75) -/

/-- The slot's tag is held at station `a`. -/
def Slot.holds (r : Slot) (a : Address) : Bool := r.names a && r.state.held

theorem SlotState.live_of_held {st : SlotState} (h : st.held = true) : st.live = true := by
  cases st <;> simp_all [SlotState.held, SlotState.live]

theorem State.heldCount_eq (s : State) (a : Address) : s.heldCount a = allSlots.countP fun n => (s.slot n).holds a :=
  List.countP_eq_length_filter.symm

theorem State.heldCount_congr (h : ∀ m, (t.slot m).holds a = (s.slot m).holds a) : t.heldCount a = s.heldCount a := by
  rw [t.heldCount_eq, s.heldCount_eq]
  exact List.countP_congr fun m _ => by rw [h m]

/-- Where one slot alone changes, the count changes by what that slot counts before and after. -/
theorem State.heldCount_of_others (others : ∀ m, m ≠ n → t.slot m = s.slot m) (a : Address) :
    t.heldCount a + ((s.slot n).holds a).toNat = s.heldCount a + ((t.slot n).holds a).toNat := by
  have split : ∀ u : State, u.heldCount a =
      ((u.slot n).holds a).toNat + (allSlots.erase n).countP fun m => (u.slot m).holds a := fun u => by
    have first : allSlots.Perm (n :: allSlots.erase n) := List.perm_cons_erase (List.mem_finRange n)
    rw [u.heldCount_eq, first.countP_eq, List.countP_cons, Nat.add_comm]
    cases (u.slot n).holds a <;> rfl
  have rest : ((allSlots.erase n).countP fun m => (t.slot m).holds a) =
      (allSlots.erase n).countP fun m => (s.slot m).holds a := by
    refine List.countP_congr fun m hm => ?_
    have apart : m ≠ n := ((List.nodup_finRange 32).mem_erase_iff.1 hm).1
    rw [others m apart]
  rw [split t, split s, rest]
  omega

theorem State.heldCount_pos (h : (s.slot n).holds a = true) : 1 ≤ s.heldCount a := by
  rw [s.heldCount_eq]
  exact List.countP_pos_iff.2 ⟨n, List.mem_finRange n, h⟩

/-- A station field of 1 to 31 names the station that is its address (R33). -/
theorem Slot.names_iff (h : r.station.toNat ≤ 31) : r.names a = true ↔ r.address = a := by
  simp only [Slot.names, Slot.address, decide_eq_true_eq, Fin.ext_iff]
  omega

/-! ## One slot, and all of them -/

/-- What a live slot asks of its station (R33, R54, R77, R105). -/
structure SlotServed (s : State) (n : SlotNo) : Prop where
  low        : 1 ≤ (s.slot n).station.toNat
  high       : (s.slot n).station.toNat ≤ 31
  served     : (s.station (s.slot n).address).state.served = true
  quarantine : (s.station (s.slot n).address).quarantine.getLsbD n.val = false

theorem stationsAgree_iff :
    StationsAgree s ↔ (∀ n, (s.slot n).state.live = true → SlotServed s n) ∧
      ∀ a, (s.station a).outstanding = s.heldCount a := by
  constructor
  · rintro ⟨range, served, quarantine, outstanding⟩
    exact ⟨fun n live => ⟨(range n live).1, (range n live).2, served n live, quarantine n live⟩, outstanding⟩
  · rintro ⟨slots, outstanding⟩
    exact ⟨fun n live => ⟨(slots n live).low, (slots n live).high⟩, fun n live => (slots n live).served,
      fun n live => (slots n live).quarantine, outstanding⟩

/-- What a live slot sees of a station's entry: a served station stays so, no tag joins the quarantine set. -/
structure EntryStands (e e' : Station) : Prop where
  served      : e.state.served = true → e'.state.served = true
  quarantine  : ∀ m : SlotNo, e.quarantine.getLsbD m.val = false → e'.quarantine.getLsbD m.val = false
  outstanding : e'.outstanding = e.outstanding

theorem EntryStands.refl (e : Station) : EntryStands e e := ⟨id, fun _ => id, rfl⟩

theorem EntryStands.of_eq {e e' : Station} (h : e' = e) : EntryStands e e' := h ▸ .refl e

theorem SlotServed.of_stand (h : SlotServed s n) (station : (t.slot n).station = (s.slot n).station)
    (entries : ∀ a, EntryStands (s.station a) (t.station a)) : SlotServed t n := by
  have address : (t.slot n).address = (s.slot n).address := by simp only [Slot.address, station]
  refine ⟨station ▸ h.low, station ▸ h.high, ?_, ?_⟩
  · rw [address]; exact (entries _).served h.served
  · rw [address]; exact (entries _).quarantine n h.quarantine

/-- Where no slot becomes live or moves in or out of the states held, and the entries stand, the agreement stands. -/
theorem StationsAgree.of_stand (h : StationsAgree s)
    (live : ∀ m, (t.slot m).state.live = true →
      (s.slot m).state.live = true ∧ (t.slot m).station = (s.slot m).station)
    (holds : ∀ m b, (t.slot m).holds b = (s.slot m).holds b)
    (entries : ∀ b, EntryStands (s.station b) (t.station b)) : StationsAgree t := by
  obtain ⟨slots, outstanding⟩ := stationsAgree_iff.1 h
  refine stationsAgree_iff.2 ⟨fun m hm => (slots m (live m hm).1).of_stand (live m hm).2 entries, fun b => ?_⟩
  rw [(entries b).outstanding, outstanding b]
  exact (State.heldCount_congr fun m => holds m b).symm

/-- Where the slots stand, the entries alone are to be judged. -/
theorem StationsAgree.of_slots (h : StationsAgree s) (slots : ∀ m, t.slot m = s.slot m)
    (entries : ∀ b, EntryStands (s.station b) (t.station b)) : StationsAgree t :=
  h.of_stand (fun m hm => by rw [slots m] at hm ⊢; exact ⟨hm, rfl⟩) (fun m b => by rw [slots m]) entries

/-- Where one slot moves, the entries' counts follow it. -/
theorem StationsAgree.of_move (h : StationsAgree s) (others : ∀ m, m ≠ n → t.slot m = s.slot m)
    (own : (t.slot n).state.live = true → SlotServed t n)
    (served : ∀ b, (s.station b).state.served = true → (t.station b).state.served = true)
    (quarantine : ∀ b (m : SlotNo), m ≠ n → (s.station b).quarantine.getLsbD m.val = false →
      (t.station b).quarantine.getLsbD m.val = false)
    (outstanding : ∀ b, (t.station b).outstanding + ((s.slot n).holds b).toNat =
      (s.station b).outstanding + ((t.slot n).holds b).toNat) : StationsAgree t := by
  obtain ⟨slots, counts⟩ := stationsAgree_iff.1 h
  refine stationsAgree_iff.2 ⟨fun m hm => ?_, fun b => ?_⟩
  · rcases eq_or_ne m n with rfl | apart
    · exact own hm
    · rw [others m apart] at hm
      obtain ⟨low, high, serves, clear⟩ := slots m hm
      refine ⟨?_, ?_, ?_, ?_⟩ <;> rw [others m apart]
      · exact low
      · exact high
      · exact served _ serves
      · exact quarantine _ m apart clear
  · have moved := State.heldCount_of_others others b
    have balance := outstanding b
    rw [counts b] at balance
    omega

/-- A change of one record that leaves its place among the states held, and makes no slot live. -/
theorem StationsAgree.modifySlot (h : StationsAgree s) {f : Slot → Slot}
    (live : (f (s.slot n)).state.live = true →
      (s.slot n).state.live = true ∧ (f (s.slot n)).station = (s.slot n).station)
    (holds : ∀ b, (f (s.slot n)).holds b = (s.slot n).holds b) : StationsAgree (s.modifySlot n f) := by
  refine h.of_stand (fun m hm => ?_) (fun m b => ?_) fun _ => .refl _
  · rw [State.modifySlot_slot] at hm ⊢
    split_ifs at hm ⊢ with e
    · subst e; exact live hm
    · exact ⟨hm, rfl⟩
  · rw [State.modifySlot_slot]
    split_ifs with e
    · subst e; exact holds b
    · rfl

/-- A change of one record that leaves its state and its station. -/
theorem StationsAgree.modifySlot_same (h : StationsAgree s) {f : Slot → Slot}
    (state : (f (s.slot n)).state = (s.slot n).state) (station : (f (s.slot n)).station = (s.slot n).station) :
    StationsAgree (s.modifySlot n f) :=
  h.modifySlot (fun hm => ⟨state ▸ hm, station⟩) fun b => by simp only [Slot.holds, Slot.names, state, station]

/-- A slot that is neither live before nor after. -/
theorem StationsAgree.modifySlot_idle (h : StationsAgree s) {f : Slot → Slot} (before : (s.slot n).state.live = false)
    (after : (f (s.slot n)).state.live = false) : StationsAgree (s.modifySlot n f) := by
  have held : ∀ r : Slot, r.state.live = false → ∀ b, r.holds b = false := fun r idle b => by
    have : r.state.held = false := Bool.eq_false_iff.2 fun e => by simp [SlotState.live_of_held e] at idle
    simp [Slot.holds, this]
  exact h.modifySlot (fun hm => by simp [after] at hm) fun b => by rw [held _ before, held _ after]

theorem StationsAgree.modifyStation (h : StationsAgree s) {f : Station → Station}
    (entry : EntryStands (s.station a) (f (s.station a))) : StationsAgree (s.modifyStation a f) := by
  refine h.of_slots (fun _ => rfl) fun b => ?_
  rw [State.modifyStation_station]
  split_ifs with e
  · subst e; exact entry
  · exact .refl _

/-! ## Completion and ACCEPT (R28, R37) -/

theorem getLsbD_or_memberBit (q : BitVec 32) (tag m : SlotNo) :
    (q ||| memberBit tag).getLsbD m.val = (q.getLsbD m.val || decide (m = tag)) := by
  simp [memberBit, Fin.ext_iff, eq_comm]

/-- A live slot becomes DONE: its station's count follows, and its own tag alone may be quarantined. -/
theorem StationsAgree.completeSlot (h : StationsAgree s) (live : (s.slot n).state.live = true) (status : Status)
    (octet : Octet) (payload : List Octet) : StationsAgree (s.completeSlot n status octet payload) := by
  obtain ⟨slots, counts⟩ := stationsAgree_iff.1 h
  have own := slots n live
  have station := s.completeSlot_station n status octet payload
  refine h.of_move (n := n) (fun _ hm => s.completeSlot_slot_ne n status octet payload hm) ?_ ?_ ?_ ?_
  · intro done
    rw [State.completeSlot_slot_self] at done
    cases done
  · intro b
    rw [station b]
    split_ifs <;> exact id
  · intro b m apart clear
    rw [station b]
    split_ifs
    · simp only [Station.release]
      split_ifs
      · rw [getLsbD_or_memberBit, clear, decide_eq_false apart]; rfl
      · exact clear
    · exact clear
  · intro b
    have done : (((s.completeSlot n status octet payload).slot n).holds b) = false := by
      rw [State.completeSlot_slot_self]
      simp [Slot.holds, SlotState.held]
    have names := Slot.names_iff (a := b) own.high
    have pos : (s.slot n).holds b = true → 1 ≤ (s.station b).outstanding := fun holds => by
      rw [counts b]; exact State.heldCount_pos holds
    rw [done, station b]
    by_cases address : (s.slot n).address = b
    · have named := names.2 address
      rw [if_pos address.symm]
      cases held : (s.slot n).state.held with
      | true =>
        have := pos (by simp [Slot.holds, named, held])
        simp [Station.release, Slot.holds, named, held]
        omega
      | false => simp [Station.release, Slot.holds, held]
    · have other : (s.slot n).names b = false := Bool.eq_false_iff.2 fun e => address (names.1 e)
      rw [if_neg (Ne.symm address)]
      simp [Slot.holds, other]

/-- ACCEPT: the station holds the slot's tag from now on, and counts it (R37). -/
theorem StationsAgree.acceptSlot (h : StationsAgree s) (sending : (s.slot n).state = .sending) :
    StationsAgree (s.acceptSlot n) := by
  have live : (s.slot n).state.live = true := by simp [sending, SlotState.live]
  have own := (stationsAgree_iff.1 h).1 n live
  have entry : ∀ b, ((s.acceptSlot n).station b).state = (s.station b).state ∧
      ((s.acceptSlot n).station b).quarantine = (s.station b).quarantine := fun b => by
    rw [s.acceptSlot_station]
    split_ifs <;> exact ⟨rfl, rfl⟩
  have record := s.acceptSlot_slot n n
  rw [if_pos rfl] at record
  refine h.of_move (n := n) (fun m hm => by rw [s.acceptSlot_slot, if_neg hm]) (fun _ => ?_) (fun b => ?_)
    (fun b m _ => ?_) fun b => ?_
  · have address : ((s.acceptSlot n).slot n).address = (s.slot n).address := by rw [record]; rfl
    refine ⟨?_, ?_, ?_, ?_⟩
    · rw [record]; exact own.low
    · rw [record]; exact own.high
    · rw [address, (entry _).1]; exact own.served
    · rw [address, (entry _).2]; exact own.quarantine
  · rw [(entry b).1]; exact id
  · rw [(entry b).2]; exact id
  · have held : ((s.acceptSlot n).slot n).state.held = true := by
      rw [record]; cases (s.slot n).hostCancel <;> rfl
    have before : (s.slot n).holds b = false := by simp [Slot.holds, sending, SlotState.held]
    have after : ((s.acceptSlot n).slot n).holds b = (s.slot n).names b := by
      rw [Slot.holds, held, Bool.and_true, record]; rfl
    rw [before, after, s.acceptSlot_station]
    by_cases address : (s.slot n).address = b
    · simp [address, (Slot.names_iff own.high).2 address]
    · have other : (s.slot n).names b = false := Bool.eq_false_iff.2 fun e => address ((Slot.names_iff own.high).1 e)
      simp [Ne.symm address, other]

/-! ## The effects of an outcome (R66) -/

theorem StationsAgree.requeueSlot (h : StationsAgree s) (sending : (s.slot n).state = .sending) :
    StationsAgree (s.requeueSlot n) := by
  have queued : StationsAgree (s.modifySlot n fun r => { r with state := .queued }) :=
    h.modifySlot (fun _ => ⟨by simp [sending, SlotState.live], rfl⟩) fun b => by
      simp [Slot.holds, sending, SlotState.held]
  exact queued.of_slots (fun _ => rfl) fun _ => .refl _

theorem StationsAgree.endRequest (h : StationsAgree s) (sending : (s.slot n).state = .sending) (status : Status)
    (octet : Octet) : StationsAgree (s.endRequest n status octet) := by
  have closed : StationsAgree (s.onDispatch closeHeldPlace) := h.of_slots (fun _ => rfl) fun _ => .refl _
  exact closed.completeSlot (by simp [sending, SlotState.live]) status octet []

theorem StationsAgree.retrySlot (h : StationsAgree s) (sending : (s.slot n).state = .sending) (status : Status) :
    StationsAgree (s.retrySlot n status) := by
  unfold State.retrySlot
  split
  · exact h.requeueSlot sending
  · exact h.endRequest sending status 0

theorem StationsAgree.failRequest (h : StationsAgree s) (sending : (s.slot n).state = .sending)
    (o : ExchangeOutcome) : StationsAgree (s.failRequest n o) := by
  unfold State.failRequest
  split
  · split
    · exact h.retrySlot sending .refused
    · exact h.endRequest sending .rejected _
  · exact h.requeueSlot sending
  all_goals exact h.retrySlot sending .noAnswer

theorem StationsAgree.requestEffect (h : StationsAgree s) (sending : (s.slot n).state = .sending)
    (o : ExchangeOutcome) : StationsAgree (s.requestEffect n o) := by
  have effect : ∀ u : State, StationsAgree u → (u.slot n).state = .sending → StationsAgree
      (if o = .answer .accept then u.acceptSlot n
        else if (u.slot n).hostCancel then u.endRequest n .cancelled 0 else u.failRequest n o) := by
    intro u agree sending
    split
    · exact agree.acceptSlot sending
    · split
      · exact agree.endRequest sending .cancelled 0
      · exact agree.failRequest sending o
  refine effect _ ?_ ?_
  · split
    · exact h
    · exact h.modifySlot_same rfl rfl
  · split
    · exact sending
    · rw [State.modifySlot_slot_self]; exact sending

theorem StationsAgree.cancelUnanswered (h : StationsAgree s) (cancelling : (s.slot n).state = .cancelling) :
    StationsAgree (s.cancelUnanswered n) := by
  have counted : StationsAgree (s.modifySlot n fun r => { r with cancelAttempts := r.cancelAttempts + 1 }) :=
    h.modifySlot_same rfl rfl
  unfold State.cancelUnanswered
  dsimp only
  split
  · exact counted.completeSlot (by simp [cancelling, SlotState.live]) .abandoned 0 []
  · exact counted.of_slots (fun _ => rfl) fun _ => .refl _

theorem StationsAgree.cancelEffect (h : StationsAgree s) (cancelling : (s.slot n).state = .cancelling)
    (o : ExchangeOutcome) : StationsAgree (s.cancelEffect n o) := by
  have landed : StationsAgree (s.modifySlot n fun r => { r with cancelInFlight := false }) :=
    h.modifySlot_same rfl rfl
  have still : ((s.modifySlot n fun r => { r with cancelInFlight := false }).slot n).state = .cancelling := by
    simpa using cancelling
  have live : ((s.modifySlot n fun r => { r with cancelInFlight := false }).slot n).state.live = true := by
    simp [cancelling, SlotState.live]
  unfold State.cancelEffect
  dsimp only
  split
  · exact landed.completeSlot live _ _ _
  · exact landed.completeSlot live _ _ _
  · exact landed.of_slots (fun _ => rfl) fun _ => .refl _
  all_goals exact landed.cancelUnanswered still

theorem State.returnReserved_station (s : State) (k : PollKind) (b : Address) :
    (s.returnReserved k).station b = s.station b := by
  cases k <;> rfl

theorem StationsAgree.returnReserved (h : StationsAgree s) (k : PollKind) : StationsAgree (s.returnReserved k) :=
  h.of_slots (s.returnReserved_slot k) fun b => .of_eq (s.returnReserved_station k b)

theorem State.takeStray_slot (s : State) (a : Address) (tag : SlotNo) (m : SlotNo) :
    (s.takeStray a tag).slot m = s.slot m := rfl

/-- A stray reply frees its tag at the station (R94). -/
theorem State.takeStray_station (s : State) (a : Address) (tag : SlotNo) (b : Address) :
    (s.takeStray a tag).station b =
      if b = a then { s.station b with quarantine := (s.station b).quarantine &&& ~~~memberBit tag }
      else s.station b := by
  refine (s.modifyStation_station a (fun e => { e with quarantine := e.quarantine &&& ~~~memberBit tag }) b).trans ?_
  split_ifs with h
  · rw [h]
  · rfl

/-- No tag joins a quarantine set from which one is taken. -/
theorem entryStands_unquarantine (e : Station) (tag : SlotNo) :
    EntryStands e { e with quarantine := e.quarantine &&& ~~~memberBit tag } :=
  ⟨id, fun m clear => by rw [getLsbD_and_not_memberBit, clear, Bool.and_false], rfl⟩

theorem StationsAgree.takeReply (h : StationsAgree s) (a : Address) (tag : SlotNo) (octet : Octet)
    (payload : List Octet) : StationsAgree (s.takeReply a tag octet payload) := by
  unfold State.takeReply
  dsimp only
  split
  · next matched => exact h.completeSlot (by simp_all [SlotState.live]) .ok octet payload
  · split
    · next matched => exact h.completeSlot (by simp_all [SlotState.live]) .late octet payload
    · refine h.of_slots (s.takeStray_slot a tag) fun b => ?_
      rw [s.takeStray_station]
      split_ifs
      · exact entryStands_unquarantine _ tag
      · exact .refl _

theorem State.takeEvent_station (s : State) (k : PollKind) (a : Address) (e : EventAnswer) (b : Address) :
    (s.takeEvent k a e).station b = s.station b := by
  have file : ∀ r q, (s.fileEvent r a e q).station b = s.station b := by
    intro r q
    unfold State.fileEvent
    dsimp only
    split <;> rfl
  unfold State.takeEvent
  split
  · exact file _ _
  · exact file _ _
  · exact s.returnReserved_station _ b

theorem StationsAgree.pollEffect (h : StationsAgree s) (k : PollKind) (a : Address) (o : ExchangeOutcome) :
    StationsAgree (s.pollEffect k a o) := by
  unfold State.pollEffect
  split
  · exact (h.returnReserved k).takeReply a _ _ _
  · exact h.of_slots (s.takeEvent_slot k a _) fun b => .of_eq (s.takeEvent_station k a _ b)
  all_goals exact h.returnReserved k

/-! ## The station's loss (R42, R85) -/

/-- Where every live slot's field is an address, a loss takes from each count exactly the lost slots counted in it. -/
theorem State.heldCount_goOffline (range : ∀ m, (s.slot m).state.live = true → (s.slot m).station.toNat ≤ 31)
    (a b : Address) :
    (s.goOffline a).heldCount b +
        ((s.lostSlots a).filter fun m => (s.slot m).address = b ∧ (s.slot m).state.held = true).length =
      s.heldCount b := by
  have lost : ((s.lostSlots a).filter fun m => (s.slot m).address = b ∧ (s.slot m).state.held = true).length =
      (allSlots.filter fun m => decide (m ∈ s.lostSlots a)).countP fun m => (s.slot m).holds b := by
    have same : (allSlots.filter fun m => decide (m ∈ s.lostSlots a)) = s.lostSlots a := by
      simp only [State.lostSlots, List.mem_filter, allSlots, List.mem_finRange, true_and, Bool.decide_eq_true]
    rw [same, List.countP_eq_length_filter]
    refine congrArg List.length (List.filter_congr fun m _ => ?_)
    cases held : (s.slot m).state.held with
    | false => simp [Slot.holds, held]
    | true =>
      have names := Slot.names_iff (a := b) (range m (SlotState.live_of_held held))
      rw [Slot.holds, held, Bool.and_true, Bool.eq_iff_iff, names]
      simp
  have kept : (s.goOffline a).heldCount b =
      (allSlots.filter fun m => !decide (m ∈ s.lostSlots a)).countP fun m => (s.slot m).holds b := by
    rw [State.heldCount_eq, List.countP_filter]
    refine List.countP_congr fun m _ => ?_
    rw [s.goOffline_slot]
    by_cases gone : m ∈ s.lostSlots a <;> simp [gone, Slot.holds, SlotState.held]
  rw [lost, kept, s.heldCount_eq b, Nat.add_comm]
  exact (List.countP_eq_countP_filter_add allSlots _ _).symm

/-- The loss of a station leaves no live slot at it: none of its slots is SENDING any more. -/
theorem StationsAgree.goOffline (h : StationsAgree s) (none : ∀ m, (s.slot m).state ≠ .sending) (a : Address) :
    StationsAgree (s.goOffline a) := by
  obtain ⟨slots, counts⟩ := stationsAgree_iff.1 h
  have range : ∀ m, (s.slot m).state.live = true → (s.slot m).station.toNat ≤ 31 := fun m live => (slots m live).high
  refine stationsAgree_iff.2 ⟨fun m live => ?_, fun b => ?_⟩
  · have record := s.goOffline_slot a m
    have kept : m ∉ s.lostSlots a := fun gone => by
      rw [record, if_pos gone] at live
      cases live
    rw [if_neg kept] at record
    rw [record] at live
    obtain ⟨low, high, serves, clear⟩ := slots m live
    have apart : (s.slot m).address ≠ a := fun e => by
      refine kept (s.mem_lostSlots.2 ⟨(Slot.names_iff high).2 e, ?_⟩)
      have notSending := none m
      revert live notSending
      cases (s.slot m).state <;> simp [SlotState.live, SlotState.held]
    have entry := s.goOffline_station_ne a apart
    refine ⟨?_, ?_, ?_, ?_⟩ <;> rw [record]
    · exact low
    · exact high
    · rw [entry, s.loseSlots_station]; exact serves
    · rw [entry, s.loseSlots_quarantine, clear]
      simp [kept]
  · have balance := State.heldCount_goOffline range a b
    have outstanding : ((s.goOffline a).station b).outstanding = ((s.loseSlots a).station b).outstanding := by
      by_cases e : b = a
      · subst e; rw [s.goOffline_station_self]; rfl
      · rw [s.goOffline_station_ne a e]
    have lost : ((s.loseSlots a).station b).outstanding = (s.station b).outstanding -
        ((s.lostSlots a).filter fun m => (s.slot m).address = b ∧ (s.slot m).state.held = true).length := by
      rw [s.loseSlots_station]
    rw [outstanding, lost, counts b]
    omega

theorem StationsAgree.bookSilence (h : StationsAgree s) (none : ∀ m, (s.slot m).state ≠ .sending) (a : Address) :
    StationsAgree (s.bookSilence a) := by
  have counted : StationsAgree (s.modifyStation a Station.unanswered) := h.modifyStation ⟨id, fun _ => id, rfl⟩
  rcases lt_or_ge ((s.station a).noAnswer + 1) s.stationTable.noAnswerLimit with below | lost
  · rw [s.bookSilence_below a below]; exact counted
  · rw [s.bookSilence_lost a lost]; exact counted.goOffline none a

/-- A valid answer leaves a served station served, and its counts and its quarantine set (R80). -/
theorem entryStands_answered (holdoff : Nat) (kind : ExchangeKind) (ans : Answer) (e : Station) :
    EntryStands e (e.answered holdoff kind ans) := by
  unfold Station.answered Station.startHold
  split_ifs
  · exact ⟨fun _ => rfl, fun _ => id, rfl⟩
  · exact ⟨id, fun _ => id, rfl⟩
  · exact ⟨fun _ => rfl, fun _ => id, rfl⟩
  · exact ⟨id, fun _ => id, rfl⟩

theorem StationsAgree.bookAnswer (h : StationsAgree s) (x : Exchange) (ans : Answer) :
    StationsAgree (s.bookAnswer x ans) := by
  refine h.of_slots (s.bookAnswer_slot x ans) fun b => ?_
  rw [s.bookAnswer_station]
  split_ifs
  · exact entryStands_answered _ _ _ _
  · exact .refl _

theorem StationsAgree.book (h : StationsAgree s) (none : ∀ m, (s.slot m).state ≠ .sending) (x : Exchange)
    (o : ExchangeOutcome) : StationsAgree (s.book x o) := by
  cases o with
  | answer ans => exact h.bookAnswer x ans
  | noAnswer => exact h.bookSilence none x.station
  | checkError => exact h.bookSilence none x.station
  | protocolError => exact h.bookSilence none x.station
  | echoFault => exact h

theorem StationsAgree.settle (h : StationsAgree s) (lists : SlotListsAgree s) {x : Exchange}
    (flight : s.lineScheduler.exchange = some x) (o : ExchangeOutcome) : StationsAgree (s.settle x o) := by
  obtain ⟨sending, cancelling⟩ := lists.inFlight flight
  have kind : s.kindInFlight = some x.kind := by simp [State.kindInFlight, flight]
  have agree := slotListsAgree_iff_kind.1 lists
  rw [kind] at agree
  have lists' : ListsAgreeFor x.kind.requestSlot x.kind.cancelSlot s.endExchange :=
    agree.of_stand ⟨fun _ => rfl, fun _ => rfl, rfl, rfl, rfl⟩
  have ended : StationsAgree s.endExchange := h.of_slots (fun _ => rfl) fun _ => .refl _
  have none : ∀ {u : State}, ListsAgreeFor none none u → ∀ m, (u.slot m).state ≠ .sending :=
    fun empty m sending => by simpa using (empty.slots m).sending.1 sending
  unfold State.settle State.applyOutcome
  cases hk : x.kind with
  | request n =>
    rw [hk] at lists'
    exact (ended.requestEffect ((sending n).2 hk) o).book (none (ListsAgreeFor.requestEffect lists' o)) x o
  | cancel n =>
    rw [hk] at lists'
    exact (ended.cancelEffect (cancelling n hk) o).book (none (ListsAgreeFor.cancelEffect lists' o)) x o
  | poll k ack =>
    rw [hk] at lists'
    dsimp only
    split
    · exact ended.returnReserved k
    · exact (ended.pollEffect k x.station o).book (none (ListsAgreeFor.pollEffect lists' k x.station o)) x o

/-! ## Every change -/

/-- The host's write of an entry's configuration word leaves all that a live slot sees (R73). -/
theorem entryStands_writeWord {e e' : Station} {k : Fin 8} {w : Word} (written : e.writeWord k w = some e') :
    EntryStands e e' := by
  unfold Station.writeWord at written
  dsimp only at written
  split at written
  · split at written
    · split at written
      · cases written; exact ⟨id, fun _ => id, rfl⟩
      · cases written
    · cases written
  · cases written

theorem StationsAgree.stationChange {f : Station → Station} (change : StationChange s a f) (h : StationsAgree s) :
    StationsAgree (s.modifyStation a f) := by
  cases change with
  | enable => exact h.modifyStation ⟨fun _ => rfl, fun _ => id, rfl⟩
  | disable idle =>
    obtain ⟨slots, counts⟩ := stationsAgree_iff.1 h
    refine stationsAgree_iff.2 ⟨fun m live => ?_, fun b => ?_⟩
    · have own := slots m live
      have apart : (s.slot m).address ≠ a := fun e => by
        have named : s.hasLiveSlot a = true :=
          State.hasLiveSlot_eq_true.2 ⟨m, by simpa [Slot.names] using (Slot.names_iff own.high).2 e, live⟩
        simp [idle] at named
      refine ⟨own.low, own.high, ?_, ?_⟩
      · rw [State.modifyStation_slot, State.modifyStation_station_ne _ _ _ apart]; exact own.served
      · rw [State.modifyStation_slot, State.modifyStation_station_ne _ _ _ apart]; exact own.quarantine
    · have outstanding : ((s.modifyStation a Station.disable).station b).outstanding = (s.station b).outstanding := by
        rw [State.modifyStation_station]
        split_ifs with e
        · rw [e]; rfl
        · rfl
      rw [outstanding, counts b]
      rfl
  | revive => exact h.modifyStation ⟨fun _ => rfl, fun m _ => BitVec.getLsbD_zero, rfl⟩
  | unquarantine tag => exact h.modifyStation (entryStands_unquarantine _ tag)
  | configure written => exact h.modifyStation (entryStands_writeWord written)

theorem StationsAgree.enqueue (h : StationsAgree s) (passed : s.postRefusal n = none) : StationsAgree (s.enqueue n) := by
  obtain ⟨owned, low, high, -, served, clear⟩ := State.postRefusal_eq_none passed
  have record := (s.enqueue_slot n n).trans (if_pos rfl)
  refine h.of_move (n := n) (fun m hm => (s.enqueue_slot n m).trans (if_neg hm)) (fun _ => ?_) (fun _ => id)
    (fun _ _ _ => id) fun b => ?_
  · refine ⟨?_, ?_, ?_, ?_⟩ <;> rw [record]
    · exact low
    · exact high
    · exact served
    · exact clear
  · have before : (s.slot n).holds b = false := by simp [Slot.holds, owned, SlotState.held]
    have after : ((s.enqueue n).slot n).holds b = false := by rw [record]; simp [Slot.holds, SlotState.held]
    rw [before, after]
    rfl

theorem StationsAgree.slotChange (change : SlotChange s n t) (h : StationsAgree s) : StationsAgree t := by
  cases change with
  | allocate free => exact h.modifySlot_idle (by simp [free, SlotState.live]) rfl
  | hostWord owned written =>
    have state := (Slot.writeWord_stands written).1
    exact h.modifySlot_idle (by simp [owned, SlotState.live]) (by simp [state, owned, SlotState.live])
  | enqueue passed => exact h.enqueue passed
  | release owned => exact h.modifySlot_idle (by simp [owned, SlotState.live]) rfl
  | retire done =>
    have freed : StationsAgree (s.modifySlot n fun r => { r with state := .free }) :=
      h.modifySlot_idle (by simp [done, SlotState.live]) rfl
    exact freed.of_slots (fun _ => rfl) fun _ => .refl _
  | cancelQueued queued => exact h.completeSlot (by simp [queued, SlotState.live]) _ _ _
  | cancelSending sending => exact h.modifySlot_same rfl rfl
  | cancelWaiting waiting =>
    have cancelled : StationsAgree (s.modifySlot n fun r => { r with state := .cancelling, hostCancel := true }) :=
      h.modifySlot (fun _ => ⟨by simp [waiting, SlotState.live], rfl⟩) fun b => by
        simp only [Slot.holds, waiting]; rfl
    exact cancelled.of_slots (fun _ => rfl) fun _ => .refl _
  | abandon cancelling idle => exact h.completeSlot (by simp [cancelling, SlotState.live]) _ _ _

theorem StationsAgree.expireDeadlines (h : StationsAgree s) : StationsAgree s.expireDeadlines := by
  have frame := s.expireDeadlines_frame
  refine h.of_stand (fun m live => ?_) (fun m b => ?_) fun b => .of_eq (by rw [frame]; rfl)
  · rw [s.expireDeadlines_slot] at live ⊢
    split_ifs at live ⊢ with due
    · have waiting : (s.slot m).state = .waiting := by simp_all [Slot.deadlineDue]
      exact ⟨by simp [waiting, SlotState.live], rfl⟩
    · exact ⟨live, rfl⟩
  · rw [s.expireDeadlines_slot]
    split_ifs with due
    · have waiting : (s.slot m).state = .waiting := by simp_all [Slot.deadlineDue]
      simp only [Slot.holds, waiting]
      rfl
    · rfl

theorem Slot.countDown_station (r : Slot) : r.countDown.station = r.station := by
  unfold Slot.countDown
  split <;> rfl

theorem StationsAgree.countDown (h : StationsAgree s) : StationsAgree s.countDown := by
  refine h.of_stand (fun m live => ?_) (fun m b => ?_) fun b => ?_
  · rw [s.countDown_slot, Slot.countDown_state] at live
    exact ⟨live, by rw [s.countDown_slot, Slot.countDown_station]⟩
  · simp only [s.countDown_slot, Slot.holds, Slot.names, Slot.countDown_state, Slot.countDown_station]
  · rw [s.countDown_station]
    unfold Station.countDown
    split_ifs <;> exact ⟨id, fun _ => id, rfl⟩

theorem StationsAgree.expireHolds (h : StationsAgree s) : StationsAgree s.expireHolds := by
  refine h.of_slots (s.onStations_slot _) fun b => ?_
  rw [s.expireHolds_station]
  unfold Station.expireHold
  split_ifs <;> exact ⟨id, fun _ => id, rfl⟩

theorem stationsAgree_start (start : RecordsStart s t) : StationsAgree t := by
  refine stationsAgree_iff.2 ⟨fun m live => ?_, fun b => ?_⟩
  · rw [start.slot m] at live
    cases live
  · have none : t.heldCount b = 0 := by
      rw [t.heldCount_eq, List.countP_eq_zero]
      intro m _
      rw [start.slot m]
      simp [Slot.holds, Slot.zero, SlotState.held]
    rw [start.station b, none, Station.initial]
    split_ifs <;> rfl

theorem StationsAgree.change (change : RecordChange s t) (lists : SlotListsAgree s) (h : StationsAgree s) :
    StationsAgree t := by
  cases change with
  | stand k => exact h.of_slots k.slot fun b => .of_eq (k.station b)
  | start k => exact stationsAgree_start k
  | slot k => exact h.slotChange k
  | station k => exact h.stationChange k
  | eventFree head => exact h.of_slots (fun _ => rfl) fun _ => .refl _
  | @sendCancel n idle head =>
    have flagged : StationsAgree (s.modifySlot n fun r => { r with cancelInFlight := true }) :=
      h.modifySlot_same rfl rfl
    exact flagged.of_slots (fun _ => rfl) fun _ => .refl _
  | @sendRequest n idle queued =>
    have sent : StationsAgree (s.modifySlot n fun r => { r with state := .sending }) :=
      h.modifySlot (fun _ => ⟨by simp [queued, SlotState.live], rfl⟩) fun b => by
        simp [Slot.holds, queued, SlotState.held]
    exact sent.of_slots (fun _ => rfl) fun _ => .refl _
  | sendPoll idle a =>
    have reserved : StationsAgree (s.reserve (s.pollKindFor a)) := by
      cases s.pollKindFor a <;> exact h.of_slots (fun _ => rfl) fun _ => .refl _
    exact reserved.of_slots (fun _ => rfl) fun _ => .refl _
  | settle flight o => exact h.settle lists flight o
  | expireDeadlines => exact h.expireDeadlines
  | expireHolds => exact h.expireHolds
  | countDown => exact h.countDown

/-- Settles O60: the lists say which slot is SENDING, and so which slots a station's loss leaves live. -/
theorem stepsKeepStationsAndSlotsInAgreement : Obligations.StepsKeepStationsAndSlotsInAgreement := fun _ _ ht h =>
  (step_keeps (P := fun u => SlotListsAgree u ∧ StationsAgree u)
    (fun change ⟨lists, agree⟩ => ⟨lists.change change, agree.change change lists⟩)
    (fun ⟨lists, agree⟩ =>
      ⟨lists.of_stand ⟨fun _ => rfl, fun _ => rfl, rfl, rfl, rfl⟩ rfl,
        agree.of_slots (fun _ => rfl) fun _ => .refl _⟩) ht h).2

/-! ## Right after a reset (log 9) -/

/-- Settles O55: the lists by O58's first half; the other blocks are in their starting states, as a sweep leaves them. -/
theorem invariantsHoldAtReset : Obligations.InvariantsHoldAtReset := by
  have start : RecordsStart State.reset State.reset :=
    ⟨rfl, State.reset_slot, rfl, rfl, State.reset_station, rfl, rfl, rfl⟩
  have credit : ∀ a : Address, a ≠ 0 → (State.reset.station a).creditLimit = 2 := fun a ha => by
    rw [State.reset_station, Station.initial_of_ne ha]
  refine ⟨?line, ?registers, ?coalescing, ?pool, slotListsAgree_reset, ?records, stationsAgree_start start⟩
  case line => simp [LineConsistent, State.reset]
  case registers =>
    refine ⟨by decide, by decide, by decide, by decide, by decide, by decide, fun a ha => ?_, by decide, by decide,
      by decide⟩
    rw [credit a ha]
    decide
  case coalescing => simp [CoalescingSound, State.reset, Causes.clear]
  case pool => exact List.Perm.of_eq (by simp [State.reset, EventPool.initial, State.reserved, allRecords])
  case records => exact fun n => by rw [State.reset_slot]; exact Slot.sound_zero

end Sys2Proof.Machine
end

-- ==== The line, the registers and the coalescing state (03, 08, 09) ====
section
/-! SUPPORT. Every command keeps the line consistent, the registers and counters legal, and the coalescing state sound
(R57, R59, R84, R87, R138, R141, R146, R149, R154 to R157, R171, R173). -/

namespace Sys2Proof.Machine

variable {s t u : State} {n : SlotNo} {a : Address}

/-! ## Coalescing (R154 to R157) -/

section

variable {c : CompletionUnit}

theorem CoalescingSound.latchComplete (c : CompletionUnit) : CoalescingSound c.latchComplete :=
  ⟨fun _ => .inl rfl, fun _ => rfl, fun _ => rfl⟩

theorem CoalescingSound.join (h : CoalescingSound c) (slots : List SlotNo) : CoalescingSound (c.join slots) := by
  rcases eq_or_ne slots [] with rfl | some
  · exact h
  obtain ⟨running, stopped, empty⟩ := h
  rw [c.join_eq_joined some]
  refine ⟨fun _ => ?_, fun latched => ?_, fun none => absurd none (by simp [some])⟩
  · by_cases reached : c.threshold ≤ c.queue.length + slots.length
    · simp [reached]
    · by_cases queued : c.queue = []
      · by_cases zero : c.holdoff = 0
        · simp [queued, zero]
        · cases complete : c.causes.complete with
          | true => simp [complete]
          | false =>
            have below : ¬ c.threshold ≤ slots.length := by simpa [queued] using reached
            simp [queued, zero, complete, below]
      · simpa [reached, queued] using running queued
  · by_cases reached : c.threshold ≤ c.queue.length + slots.length
    · simp [reached]
    · cases complete : c.causes.complete with
      | true => simp [complete, stopped complete]
      | false =>
        have zero : c.queue = [] ∧ c.holdoff = 0 := by simpa [complete, reached] using latched
        simp [complete, zero]

theorem CoalescingSound.leave (h : CoalescingSound c) (n : SlotNo) : CoalescingSound (c.leave n) := by
  obtain ⟨running, stopped, -⟩ := h
  rw [c.leave_eq]
  refine ⟨fun rest => ?_, fun latched => ?_, fun none => if_pos none⟩
  · have queued : c.queue ≠ [] := fun e => rest (by simp [e])
    rw [if_neg rest]
    exact running queued
  · have timer := stopped latched
    simp [timer]

theorem CoalescingSound.clearComplete (h : CoalescingSound c) : CoalescingSound c.clearComplete := by
  obtain ⟨-, stopped, -⟩ := id h
  rw [c.clearComplete_eq]
  split_ifs with latched queued again
  · exact ⟨fun some => absurd queued some, fun _ => stopped latched, fun _ => stopped latched⟩
  · exact ⟨fun _ => .inl rfl, fun _ => rfl, fun _ => rfl⟩
  · exact ⟨fun _ => .inr rfl, fun latched => Bool.noConfusion latched, fun none => absurd none queued⟩
  · exact h

theorem CoalescingSound.writeCause (h : CoalescingSound c) (w : Word) : CoalescingSound (c.writeCause w) := by
  have cleared : CoalescingSound (if w.getLsbD 0 then c.clearComplete else c) := by
    split
    · exact h.clearComplete
    · exact h
  exact cleared

theorem CoalescingSound.expire (h : CoalescingSound c) : CoalescingSound c.expire := by
  rw [c.expire_eq]
  split_ifs
  · exact .latchComplete c
  · exact h

theorem CoalescingSound.countDown (h : CoalescingSound c) : CoalescingSound c.countDown := by
  obtain ⟨running, stopped, empty⟩ := h
  refine ⟨fun queued => ?_, fun latched => ?_, fun none => ?_⟩
  · simpa [CompletionUnit.countDown] using running queued
  · simp [CompletionUnit.countDown, stopped latched]
  · simp [CompletionUnit.countDown, empty none]

theorem CoalescingSound.setCoalesce (h : CoalescingSound c) (threshold holdoff : Nat) :
    CoalescingSound (c.setCoalesce threshold holdoff) := by
  rw [c.setCoalesce_eq]
  split_ifs
  · exact ⟨fun _ => .inl rfl, fun _ => rfl, fun _ => rfl⟩
  · exact h

theorem CoalescingSound.sweep (c : CompletionUnit) : CoalescingSound c.sweep :=
  ⟨fun some => absurd rfl some, fun _ => rfl, fun _ => rfl⟩

@[simp] theorem CompletionUnit.join_threshold (c : CompletionUnit) (slots : List SlotNo) :
    (c.join slots).threshold = c.threshold := by
  by_cases h : slots = []
  · simp [h]
  · rw [c.join_eq_joined h]

@[simp] theorem CompletionUnit.join_holdoff (c : CompletionUnit) (slots : List SlotNo) :
    (c.join slots).holdoff = c.holdoff := by
  by_cases h : slots = []
  · simp [h]
  · rw [c.join_eq_joined h]

@[simp] theorem CompletionUnit.clearComplete_threshold (c : CompletionUnit) :
    c.clearComplete.threshold = c.threshold := by
  rw [c.clearComplete_eq]
  split_ifs <;> rfl

@[simp] theorem CompletionUnit.clearComplete_holdoff (c : CompletionUnit) : c.clearComplete.holdoff = c.holdoff := by
  rw [c.clearComplete_eq]
  split_ifs <;> rfl

end

/-! ## The registers' limits (R59, R84, R87, R149, R154) -/

/-- The legality of every register and of the burst counter. -/
structure LimitsLegal (s : State) : Prop where
  answerWindow  : 32 ≤ s.lineEngine.answerWindow ∧ s.lineEngine.answerWindow ≤ 1023
  noAnswerLimit : 1 ≤ s.stationTable.noAnswerLimit ∧ s.stationTable.noAnswerLimit ≤ 15
  burstLimit    : 1 ≤ s.lineScheduler.burstLimit ∧ s.lineScheduler.burstLimit ≤ 8
  holdoff       : 1 ≤ s.stationTable.holdoff ∧ s.stationTable.holdoff ≤ 255
  threshold     : 1 ≤ s.completionUnit.threshold ∧ s.completionUnit.threshold ≤ 32
  coalesce      : s.completionUnit.holdoff ≤ 255
  credit        : ∀ a, a ≠ 0 → 1 ≤ (s.station a).creditLimit ∧ (s.station a).creditLimit ≤ 8
  burst         : s.lineScheduler.burst ≤ 8

/-- The registers, the burst counter and the credit limits are the same in both states. -/
structure LimitsStand (s t : State) : Prop where
  answerWindow  : t.lineEngine.answerWindow = s.lineEngine.answerWindow
  noAnswerLimit : t.stationTable.noAnswerLimit = s.stationTable.noAnswerLimit
  burstLimit    : t.lineScheduler.burstLimit = s.lineScheduler.burstLimit
  holdoff       : t.stationTable.holdoff = s.stationTable.holdoff
  threshold     : t.completionUnit.threshold = s.completionUnit.threshold
  coalesce      : t.completionUnit.holdoff = s.completionUnit.holdoff
  credit        : ∀ a, (t.station a).creditLimit = (s.station a).creditLimit
  burst         : t.lineScheduler.burst = s.lineScheduler.burst

theorem LimitsStand.refl (s : State) : LimitsStand s s := ⟨rfl, rfl, rfl, rfl, rfl, rfl, fun _ => rfl, rfl⟩

theorem LimitsStand.trans (h : LimitsStand s t) (k : LimitsStand t u) : LimitsStand s u :=
  ⟨k.1.trans h.1, k.2.trans h.2, k.3.trans h.3, k.4.trans h.4, k.5.trans h.5, k.6.trans h.6,
    fun a => (k.7 a).trans (h.7 a), k.8.trans h.8⟩

theorem LimitsLegal.of_stand (h : LimitsLegal s) (k : LimitsStand s t) : LimitsLegal t := by
  obtain ⟨h1, h2, h3, h4, h5, h6, h7, h8⟩ := h
  constructor <;> simpa only [k.answerWindow, k.noAnswerLimit, k.burstLimit, k.holdoff, k.threshold, k.coalesce,
    k.credit, k.burst]

/-! ## The effects of an outcome (R66) -/

/-- What every effect of an outcome keeps: the registers, and the coalescing state sound. -/
structure EffectKeeps (s t : State) : Prop where
  limits     : LimitsStand s t
  coalescing : CoalescingSound s.completionUnit → CoalescingSound t.completionUnit

namespace EffectKeeps

theorem refl (s : State) : EffectKeeps s s := ⟨.refl s, id⟩

theorem trans (h : EffectKeeps s t) (k : EffectKeeps t u) : EffectKeeps s u :=
  ⟨h.limits.trans k.limits, k.coalescing ∘ h.coalescing⟩

theorem modifySlot (s : State) (n : SlotNo) (f : Slot → Slot) : EffectKeeps s (s.modifySlot n f) :=
  ⟨⟨rfl, rfl, rfl, rfl, rfl, rfl, fun _ => rfl, rfl⟩, id⟩

theorem onDispatch (s : State) (f : List Place → List Place) : EffectKeeps s (s.onDispatch f) :=
  ⟨⟨rfl, rfl, rfl, rfl, rfl, rfl, fun _ => rfl, rfl⟩, id⟩

theorem onCancelList (s : State) (f : List SlotNo → List SlotNo) : EffectKeeps s (s.onCancelList f) :=
  ⟨⟨rfl, rfl, rfl, rfl, rfl, rfl, fun _ => rfl, rfl⟩, id⟩

theorem onPool (s : State) (f : EventPool → EventPool) : EffectKeeps s (s.onPool f) :=
  ⟨⟨rfl, rfl, rfl, rfl, rfl, rfl, fun _ => rfl, rfl⟩, id⟩

theorem noteChange (s : State) (a : Address) : EffectKeeps s (s.onStations (StationTable.noteChange a)) :=
  ⟨⟨rfl, rfl, rfl, rfl, rfl, rfl, fun _ => rfl, rfl⟩, id⟩

/-- A change of an entry that leaves its credit limit. -/
theorem modifyStation (s : State) (a : Address) {f : Station → Station}
    (hf : (f (s.station a)).creditLimit = (s.station a).creditLimit) : EffectKeeps s (s.modifyStation a f) := by
  refine ⟨⟨rfl, rfl, rfl, rfl, rfl, rfl, fun b => ?_, rfl⟩, id⟩
  rw [State.modifyStation_station]
  split_ifs with e
  · rw [hf, e]
  · rfl

theorem completeSlot (s : State) (n : SlotNo) (status : Status) (octet : Octet) (payload : List Octet) :
    EffectKeeps s (s.completeSlot n status octet payload) := by
  refine ⟨⟨rfl, rfl, rfl, rfl, CompletionUnit.join_threshold _ _, CompletionUnit.join_holdoff _ _, fun b => ?_, rfl⟩,
    fun h => h.join [n]⟩
  rw [State.completeSlot_station]
  split_ifs <;> rfl

theorem loseSlots (s : State) (a : Address) : EffectKeeps s (s.loseSlots a) := by
  have entries := s.loseSlots_station a
  have frame := (s.loseSlots_eq a).trans (congrArg
    (fun u : State => { u with completionUnit := s.completionUnit.join (s.lostSlots a) })
    (State.finishAll_frame .stationLost 0 [] (s.lostSlots a) s))
  refine ⟨⟨?_, ?_, ?_, ?_, ?_, ?_, fun b => by rw [entries b], ?_⟩, ?_⟩ <;> rw [frame]
  · exact CompletionUnit.join_threshold _ _
  · exact CompletionUnit.join_holdoff _ _
  · exact fun h => h.join _

theorem acceptSlot (s : State) (n : SlotNo) : EffectKeeps s (s.acceptSlot n) := by
  have entries := s.acceptSlot_station n
  have frame := s.acceptSlot_frame n
  refine ⟨⟨?_, ?_, ?_, ?_, ?_, ?_, fun b => ?_, ?_⟩, ?_⟩
  case refine_7 => rw [entries]; split_ifs <;> rfl
  all_goals rw [frame]
  exact id

theorem requeueSlot (s : State) (n : SlotNo) : EffectKeeps s (s.requeueSlot n) :=
  (modifySlot s n _).trans (onDispatch _ _)

theorem endRequest (s : State) (n : SlotNo) (status : Status) (octet : Octet) :
    EffectKeeps s (s.endRequest n status octet) :=
  (onDispatch s _).trans (completeSlot _ n status octet [])

theorem retrySlot (s : State) (n : SlotNo) (status : Status) : EffectKeeps s (s.retrySlot n status) := by
  unfold State.retrySlot
  split
  · exact requeueSlot s n
  · exact endRequest s n status 0

theorem failRequest (s : State) (n : SlotNo) (o : ExchangeOutcome) : EffectKeeps s (s.failRequest n o) := by
  unfold State.failRequest
  split
  · split
    · exact retrySlot s n .refused
    · exact endRequest s n .rejected _
  · exact requeueSlot s n
  all_goals exact retrySlot s n .noAnswer

theorem requestEffect (s : State) (n : SlotNo) (o : ExchangeOutcome) : EffectKeeps s (s.requestEffect n o) := by
  have effect : ∀ u : State, EffectKeeps s u → EffectKeeps s
      (if o = .answer .accept then u.acceptSlot n
        else if (u.slot n).hostCancel then u.endRequest n .cancelled 0 else u.failRequest n o) := by
    intro u h
    split
    · exact h.trans (acceptSlot u n)
    · split
      · exact h.trans (endRequest u n .cancelled 0)
      · exact h.trans (failRequest u n o)
  refine effect _ ?_
  split
  · exact refl s
  · exact modifySlot s n _

theorem cancelUnanswered (s : State) (n : SlotNo) : EffectKeeps s (s.cancelUnanswered n) := by
  unfold State.cancelUnanswered
  dsimp only
  split
  · exact (modifySlot s n _).trans (completeSlot _ n _ _ _)
  · exact (modifySlot s n _).trans (onCancelList _ _)

theorem cancelEffect (s : State) (n : SlotNo) (o : ExchangeOutcome) : EffectKeeps s (s.cancelEffect n o) := by
  have landed : EffectKeeps s (s.modifySlot n fun r => { r with cancelInFlight := false }) := modifySlot s n _
  unfold State.cancelEffect
  dsimp only
  split
  · exact landed.trans (completeSlot _ n _ _ _)
  · exact landed.trans (completeSlot _ n _ _ _)
  · exact landed.trans (onCancelList _ _)
  all_goals exact landed.trans (cancelUnanswered _ n)

theorem returnReserved (s : State) (k : PollKind) : EffectKeeps s (s.returnReserved k) := by
  cases k with
  | replyOnly => exact refl s
  | any r => exact onPool s _

theorem takeStray (s : State) (a : Address) (tag : SlotNo) : EffectKeeps s (s.takeStray a tag) :=
  (modifyStation s a (f := fun e => { e with quarantine := e.quarantine &&& ~~~memberBit tag }) rfl).trans
    ⟨⟨rfl, rfl, rfl, rfl, rfl, rfl, fun _ => rfl, rfl⟩, id⟩

theorem takeReply (s : State) (a : Address) (tag : SlotNo) (octet : Octet) (payload : List Octet) :
    EffectKeeps s (s.takeReply a tag octet payload) := by
  unfold State.takeReply
  dsimp only
  split
  · exact completeSlot s tag _ _ _
  · split
    · exact completeSlot s tag _ _ _
    · exact takeStray s a tag

theorem takeEvent (s : State) (k : PollKind) (a : Address) (e : EventAnswer) :
    EffectKeeps s (s.takeEvent k a e) := by
  have file : ∀ r q, EffectKeeps s (s.fileEvent r a e q) := by
    intro r q
    unfold State.fileEvent
    dsimp only
    split <;> exact ⟨⟨rfl, rfl, rfl, rfl, rfl, rfl, fun _ => rfl, rfl⟩, id⟩
  unfold State.takeEvent
  split
  · exact file _ _
  · exact file _ _
  · exact returnReserved s _

theorem pollEffect (s : State) (k : PollKind) (a : Address) (o : ExchangeOutcome) :
    EffectKeeps s (s.pollEffect k a o) := by
  unfold State.pollEffect
  split
  · exact (returnReserved s k).trans (takeReply _ a _ _ _)
  · exact takeEvent s k a _
  all_goals exact returnReserved s k

theorem goOffline (s : State) (a : Address) : EffectKeeps s (s.goOffline a) := by
  have offline : EffectKeeps s (s.modifyStation a fun e => { e with state := .offline }) := modifyStation s a rfl
  exact ((offline.trans (loseSlots _ a)).trans (modifyStation _ a rfl)).trans (noteChange _ a)

theorem bookSilence (s : State) (a : Address) : EffectKeeps s (s.bookSilence a) := by
  have counted : EffectKeeps s (s.modifyStation a Station.unanswered) := modifyStation s a rfl
  rcases lt_or_ge ((s.station a).noAnswer + 1) s.stationTable.noAnswerLimit with below | lost
  · rw [s.bookSilence_below a below]; exact counted
  · rw [s.bookSilence_lost a lost]; exact counted.trans (goOffline _ a)

theorem bookAnswer (s : State) (x : Exchange) (ans : Answer) : EffectKeeps s (s.bookAnswer x ans) := by
  have entry : ∀ e : Station, (e.answered s.stationTable.holdoff x.kind ans).creditLimit = e.creditLimit := fun e => by
    unfold Station.answered Station.startHold
    split_ifs <;> rfl
  rw [s.bookAnswer_eq]
  refine (modifyStation s x.station (entry _)).trans ?_
  split
  · exact noteChange _ _
  · exact ⟨⟨rfl, rfl, rfl, rfl, rfl, rfl, fun _ => rfl, rfl⟩, id⟩

theorem book (s : State) (x : Exchange) (o : ExchangeOutcome) : EffectKeeps s (s.book x o) := by
  cases o with
  | answer ans => exact bookAnswer s x ans
  | noAnswer => exact bookSilence s x.station
  | checkError => exact bookSilence s x.station
  | protocolError => exact bookSilence s x.station
  | echoFault => exact refl s

theorem settle (s : State) (x : Exchange) (o : ExchangeOutcome) : EffectKeeps s (s.settle x o) := by
  have ended : EffectKeeps s s.endExchange := ⟨⟨rfl, rfl, rfl, rfl, rfl, rfl, fun _ => rfl, rfl⟩, id⟩
  refine ended.trans ?_
  unfold State.settle State.applyOutcome
  split
  · exact (requestEffect _ _ o).trans (book _ x o)
  · exact (cancelEffect _ _ o).trans (book _ x o)
  · split
    · exact returnReserved _ _
    · exact (pollEffect _ _ _ o).trans (book _ x o)

end EffectKeeps

/-! ## The whole invariant -/

/-- The invariant of O56: the line, the registers with the echo count, and the coalescing state. -/
structure ControlSound (s : State) : Prop where
  line       : LineConsistent s
  limits     : LimitsLegal s
  echo       : s.lineEngine.echoCount ≤ 3
  echoLive   : s.lineEngine.state.looksAtLfault = true → s.lineEngine.echoCount < 3
  coalescing : CoalescingSound s.completionUnit

theorem controlSound_iff :
    ControlSound s ↔ LineConsistent s ∧ RegistersLegal s ∧ CoalescingSound s.completionUnit := by
  constructor
  · rintro ⟨line, ⟨h1, h2, h3, h4, h5, h6, h7, h8⟩, echo, live, coalescing⟩
    exact ⟨line, ⟨h1, h2, h3, h4, h5, h6, h7, h8, echo, live⟩, coalescing⟩
  · rintro ⟨line, ⟨h1, h2, h3, h4, h5, h6, h7, h8, echo, live⟩, coalescing⟩
    exact ⟨line, ⟨h1, h2, h3, h4, h5, h6, h7, h8⟩, echo, live, coalescing⟩

/-- What the line's consistency sees is the same in both states, and so are the registers. -/
structure ControlKept (s t : State) : Prop where
  reset    : t.pins.reset = s.pins.reset
  sweep    : t.hostPort.sweep = s.hostPort.sweep
  state    : t.lineEngine.state = s.lineEngine.state
  echo     : t.lineEngine.echoCount = s.lineEngine.echoCount
  exchange : t.lineScheduler.exchange.isSome = s.lineScheduler.exchange.isSome
  effect   : EffectKeeps s t

theorem ControlStands.kept (h : ControlStands s t) (k : EffectKeeps s t) : ControlKept s t :=
  ⟨by rw [h.pins], by rw [h.hostPort], by rw [h.lineEngine], by rw [h.lineEngine], by rw [h.lineScheduler], k⟩

theorem ControlSound.of_kept (h : ControlSound s) (k : ControlKept s t) : ControlSound t := by
  obtain ⟨line, limits, echo, live, coalescing⟩ := h
  refine ⟨?_, limits.of_stand k.effect.limits, k.echo ▸ echo, ?_, k.effect.coalescing coalescing⟩
  · simpa only [LineConsistent, k.reset, k.sweep, k.state, k.exchange] using line
  · rw [k.state, k.echo]; exact live

/-- Where the line is in another state than OFF, no sweep runs and RESET is deasserted. -/
theorem LineConsistent.awake (h : LineConsistent s) (state : s.lineEngine.state ≠ .off) : Ready s := by
  obtain ⟨-, -, sweep, reset⟩ := h
  refine ⟨Bool.eq_false_iff.2 fun e => state (reset e).1, Bool.eq_false_iff.2 fun e => state (sweep e)⟩

/-- Where the line is neither RUNNING nor STOPPING, no exchange is in flight. -/
theorem LineConsistent.idle (h : LineConsistent s)
    (state : s.lineEngine.state ≠ .running ∧ s.lineEngine.state ≠ .stopping) : s.lineScheduler.exchange = none := by
  cases e : s.lineScheduler.exchange with
  | none => rfl
  | some x => exact absurd (h.1 (by simp [e])) (by simp [state])

/-- With RESET deasserted, no sweep and no exchange in flight, every line state but STOPPING is consistent. -/
theorem lineConsistent_of_idle (ready : Ready s) (idle : s.lineScheduler.exchange = none)
    (state : s.lineEngine.state ≠ .stopping) : LineConsistent s :=
  ⟨fun some => by simp [idle] at some, fun stopping => absurd stopping state,
    fun sweep => by simp [ready.2] at sweep, fun reset => by simp [ready.1] at reset⟩

/-! ## The line (08) -/

/-- What the entry to FAULT asks for: the registers legal and the echo count at most 3, with RESET deasserted and no sweep
running. -/
structure FaultReady (s : State) : Prop where
  ready      : Ready s
  limits     : LimitsLegal s
  echo       : s.lineEngine.echoCount ≤ 3
  coalescing : CoalescingSound s.completionUnit

theorem ControlSound.faultReady (h : ControlSound s) (ready : Ready s) : FaultReady s :=
  ⟨ready, h.limits, h.echo, h.coalescing⟩

theorem State.moveLineLatching_keeps (s : State) (l : LineState) : EffectKeeps s (s.moveLineLatching l) :=
  ⟨⟨rfl, rfl, rfl, rfl, rfl, rfl, fun _ => rfl, rfl⟩, id⟩

theorem FaultReady.enterFault (h : FaultReady s) : ControlSound s.enterFault := by
  obtain ⟨engine, idle⟩ := s.enterFault_line
  have control : s.enterFault.pins = s.pins ∧ s.enterFault.hostPort = s.hostPort ∧ EffectKeeps s s.enterFault := by
    unfold State.enterFault
    dsimp only
    split
    · exact ⟨rfl, rfl, s.moveLineLatching_keeps .fault⟩
    · next x _ =>
      have stands := State.settle_control (s.moveLineLatching .fault) x x.phase.abortOutcome
      exact ⟨stands.pins, stands.hostPort, (s.moveLineLatching_keeps .fault).trans (.settle _ x _)⟩
  obtain ⟨pins, port, keeps⟩ := control
  refine ⟨lineConsistent_of_idle ?_ idle ?_, h.limits.of_stand keeps.limits, ?_, ?_, keeps.coalescing h.coalescing⟩
  · exact ⟨by rw [pins]; exact h.ready.1, by rw [port]; exact h.ready.2⟩
  · rw [engine]; simp
  · rw [engine]; exact h.echo
  · rw [engine]; simp [LineState.looksAtLfault]

theorem ControlSound.enterStarting (h : ControlSound s) (off : s.lineEngine.state = .off) (ready : Ready s) :
    ControlSound s.enterStarting := by
  have idle := h.line.idle (by simp [off])
  have started : ControlSound
      ((s.onEngine fun e => { e with state := .starting, echoCount := 0, gapPassed := false }).onScheduler
        fun l => { l with burst := 0 }) := by
    obtain ⟨h1, h2, h3, h4, h5, h6, h7, -⟩ := h.limits
    exact ⟨lineConsistent_of_idle ready idle (by simp), ⟨h1, h2, h3, h4, h5, h6, h7, Nat.zero_le 8⟩, Nat.zero_le 3,
      fun _ => Nat.zero_lt_succ 2, h.coalescing⟩
  unfold State.enterStarting
  dsimp only
  split
  · exact (started.faultReady ready).enterFault
  · exact started

/-- A move of the line alone, with the line consistent after it. -/
theorem ControlSound.moveLine (h : ControlSound s) {l : LineState} (line : LineConsistent (s.moveLine l))
    (live : l.looksAtLfault = true → s.lineEngine.echoCount < 3) : ControlSound (s.moveLine l) :=
  ⟨line, h.limits.of_stand ⟨rfl, rfl, rfl, rfl, rfl, rfl, fun _ => rfl, rfl⟩, h.echo, live, h.coalescing⟩

theorem ControlSound.latchLine (h : ControlSound s) : ControlSound (s.onCompletion CompletionUnit.latchLine) :=
  h.of_kept ⟨rfl, rfl, rfl, rfl, rfl, ⟨⟨rfl, rfl, rfl, rfl, rfl, rfl, fun _ => rfl, rfl⟩, id⟩⟩

/-- The line's move to OFF, with no exchange in flight. -/
theorem ControlSound.moveOff (h : ControlSound s) (ready : Ready s) (idle : s.lineScheduler.exchange = none) :
    ControlSound (s.moveLine .off) :=
  h.moveLine (lineConsistent_of_idle ready idle (by simp [State.moveLine])) (by simp [LineState.looksAtLfault])

theorem ControlSound.runOne (h : ControlSound s) (awake : s.pins.reset = false) : ControlSound s.runOne := by
  unfold State.runOne
  split
  · next off =>
    split
    · exact h
    · next idle => exact h.enterStarting off ⟨awake, by simpa using idle⟩
  · next stopping =>
    have ready := h.line.awake (by simp [stopping])
    refine h.moveLine (l := .running) ⟨fun _ => .inl rfl, nofun, fun sweep => ?_, fun reset => ?_⟩ fun _ => ?_
    · exact absurd sweep (by simp [State.moveLine, ready.2])
    · exact absurd reset (by simp [State.moveLine, ready.1])
    · exact h.echoLive (by simp [stopping, LineState.looksAtLfault])
  all_goals exact h

theorem ControlSound.runZero (h : ControlSound s) : ControlSound s.runZero := by
  unfold State.runZero
  split
  · next starting =>
    exact (h.moveOff (h.line.awake (by simp [starting])) (h.line.idle (by simp [starting]))).latchLine
  · next running =>
    have ready := h.line.awake (by simp [running])
    split
    · next flight =>
      refine h.moveLine ⟨fun _ => .inr rfl, fun _ => flight, fun sweep => ?_, fun reset => ?_⟩ fun _ => ?_
      · exact absurd sweep (by simp [State.moveLine, ready.2])
      · exact absurd reset (by simp [State.moveLine, ready.1])
      · exact h.echoLive (by simp [running, LineState.looksAtLfault])
    · next idle => exact h.moveOff ready (by simpa using idle)
  · next fault => exact h.moveOff (h.line.awake (by simp [fault])) (h.line.idle (by simp [fault]))
  all_goals exact h

theorem ControlSound.setGap (h : ControlSound s) (passed : Bool) : ControlSound (s.setGap passed) :=
  h.of_kept ⟨rfl, rfl, rfl, rfl, rfl, ⟨⟨rfl, rfl, rfl, rfl, rfl, rfl, fun _ => rfl, rfl⟩, id⟩⟩

theorem ControlSound.endSettle (h : ControlSound s) : ControlSound s.endSettle := by
  unfold State.endSettle
  split
  · next starting =>
    have ready := h.line.awake (by simp [starting])
    have idle := h.line.idle (by simp [starting])
    refine ControlSound.setGap (h.moveLine (l := .running) (lineConsistent_of_idle ready idle ?_) fun _ => ?_) true
    · simp [State.moveLine]
    · exact h.echoLive (by simp [starting, LineState.looksAtLfault])
  · exact h

theorem ControlSound.recordError (h : ControlSound s) (kind : ErrorKind) (a : Address) :
    ControlSound (s.recordError kind a) :=
  h.of_kept ⟨rfl, rfl, rfl, rfl, rfl, ⟨⟨rfl, rfl, rfl, rfl, rfl, rfl, fun _ => rfl, rfl⟩, id⟩⟩

theorem ControlSound.contend (h : ControlSound s) : ControlSound s.contend := by
  unfold State.contend
  split
  · next starting =>
    have ready := h.line.awake (by simp [starting])
    exact ((h.recordError .echo 0).faultReady ready).enterFault
  · exact h

theorem ControlSound.setLfault (h : ControlSound s) (level : Bool) : ControlSound (s.setLfault level) := by
  have taken : ControlSound (s.onPins fun p => { p with lfault := level }) :=
    h.of_kept ⟨rfl, rfl, rfl, rfl, rfl, ⟨⟨rfl, rfl, rfl, rfl, rfl, rfl, fun _ => rfl, rfl⟩, id⟩⟩
  unfold State.setLfault
  dsimp only
  split
  · next looks =>
    have state : s.lineEngine.state ≠ .off := fun off => by simp [off, LineState.looksAtLfault] at looks
    exact (taken.faultReady (h.line.awake state)).enterFault
  · exact taken

/-! ## The stages of an exchange (01, 08) -/

theorem ControlSound.setPhase (h : ControlSound s) (p : Phase) : ControlSound (s.setPhase p) := by
  refine h.of_kept ⟨rfl, rfl, rfl, rfl, ?_, ⟨⟨rfl, rfl, rfl, rfl, rfl, rfl, fun _ => rfl, rfl⟩, id⟩⟩
  show (s.lineScheduler.exchange.map _).isSome = _
  cases s.lineScheduler.exchange <;> rfl

theorem ControlSound.passGap (h : ControlSound s) : ControlSound s.passGap := by
  unfold State.passGap
  split
  · exact h
  · exact h
  all_goals exact h.setGap true

/-- A change of the engine that sets the echo count, below 3. -/
theorem ControlSound.setEcho (h : ControlSound s) {f : LineEngine → LineEngine}
    (state : (f s.lineEngine).state = s.lineEngine.state)
    (window : (f s.lineEngine).answerWindow = s.lineEngine.answerWindow) (echo : (f s.lineEngine).echoCount < 3) :
    ControlSound (s.onEngine f) := by
  refine ⟨?_, h.limits.of_stand ⟨window, rfl, rfl, rfl, rfl, rfl, fun _ => rfl, rfl⟩, echo.le, fun _ => echo,
    h.coalescing⟩
  simpa only [LineConsistent, State.onEngine_lineEngine, State.onEngine_lineScheduler, State.onEngine_hostPort,
    State.onEngine_pins, state] using h.line

theorem ControlSound.frameSent (h : ControlSound s) : ControlSound s.frameSent := by
  unfold State.frameSent
  split
  · exact (h.setPhase .windowOpen).setEcho rfl rfl (Nat.zero_lt_succ 2)
  · exact h

theorem ControlSound.echoMismatch (h : ControlSound s) (bit : Nat) : ControlSound (s.echoMismatch bit) := by
  unfold State.echoMismatch
  split
  · exact h
  · next x flight =>
    split
    · have state := h.line.1 (by simp [flight])
      have ready := h.line.awake (by rcases state with e | e <;> simp [e])
      have below : s.lineEngine.echoCount < 3 :=
        h.echoLive (by rcases state with e | e <;> simp [e, LineState.looksAtLfault])
      have noted := (h.setPhase (.decided .echoFault)).recordError .echo x.station
      dsimp only
      split
      · exact FaultReady.enterFault
          ⟨ready, noted.limits.of_stand ⟨rfl, rfl, rfl, rfl, rfl, rfl, fun _ => rfl, rfl⟩, below, noted.coalescing⟩
      · next fewer => exact noted.setEcho rfl rfl (not_le.1 fewer)
    · exact h

theorem ControlSound.beginAnswer (h : ControlSound s) (bitTime : Nat) : ControlSound (s.beginAnswer bitTime) := by
  unfold State.beginAnswer
  split
  · exact h.setPhase .receiving
  · exact h

theorem ControlSound.closeWindow (h : ControlSound s) : ControlSound s.closeWindow := by
  unfold State.closeWindow
  split
  · exact (h.setPhase _).setGap true
  · exact h

theorem ControlSound.noteLineError (h : ControlSound s) (a : Address) (o : ExchangeOutcome) :
    ControlSound (s.noteLineError a o) := by
  cases o with
  | checkError => exact h.recordError .check a
  | protocolError => exact h.recordError .protocol a
  | answer _ => exact h
  | noAnswer => exact h
  | echoFault => exact h

theorem ControlSound.takeAnswer (h : ControlSound s) (run : List RxOctet) : ControlSound (s.takeAnswer run) := by
  unfold State.takeAnswer
  split
  · exact h
  · next x _ =>
    split
    · exact ((h.setPhase _).noteLineError x.station _).setGap false
    · exact h

/-- The outcome's taking ends the exchange; in STOPPING the line goes OFF with it (R142). -/
theorem ControlSound.takeOutcome (h : ControlSound s) : ControlSound s.takeOutcome := by
  unfold State.takeOutcome
  split
  · exact h
  · next x flight =>
    split
    · next o _ =>
      have state := h.line.1 (by simp [flight])
      have ready := h.line.awake (by rcases state with e | e <;> simp [e])
      have stands := s.settle_control x o
      have keeps := EffectKeeps.settle s x o
      have settledReady : Ready (s.settle x o) := ⟨by rw [stands.pins]; exact ready.1, by
        rw [stands.hostPort]; exact ready.2⟩
      have limits := h.limits.of_stand keeps.limits
      have coalescing := keeps.coalescing h.coalescing
      have idle : (s.settle x o).lineScheduler.exchange = none := by simp
      dsimp only
      split
      · refine ⟨lineConsistent_of_idle settledReady idle (by simp [State.moveLineLatching, State.moveLine]),
          limits.of_stand (State.moveLineLatching_keeps _ .off).limits, ?_, ?_, coalescing⟩
        · show (s.settle x o).lineEngine.echoCount ≤ 3
          rw [s.settle_lineEngine]
          exact h.echo
        · exact nofun
      · next running =>
        refine ⟨lineConsistent_of_idle settledReady idle ?_, limits, ?_, ?_, coalescing⟩ <;> rw [s.settle_lineEngine]
        · exact running
        · exact h.echo
        · exact h.echoLive
    all_goals exact h

/-! ## The choice (R57 to R63) -/

/-- A REQUEST within the burst is chosen only below the burst limit (R58, R59). -/
theorem State.choice_requestInBurst (h : s.choice = some (.requestInBurst n)) :
    s.lineScheduler.burst < s.lineScheduler.burstLimit := by
  unfold State.choice at h
  split at h
  · cases h
  · split at h
    · next found =>
      split at found
      · assumption
      · cases found
    · split at h
      · cases h
      · simp at h

/-- The exchange that a choice launches, with the burst counter at most 8. -/
theorem ControlSound.launched (h : ControlSound s) (running : s.lineEngine.state = .running)
    (stands : t.pins = s.pins ∧ t.hostPort = s.hostPort ∧ t.lineEngine = s.lineEngine ∧
      t.completionUnit = s.completionUnit)
    (limits : t.stationTable.noAnswerLimit = s.stationTable.noAnswerLimit ∧
      t.stationTable.holdoff = s.stationTable.holdoff ∧
      t.lineScheduler.burstLimit = s.lineScheduler.burstLimit)
    (credit : ∀ a, (t.station a).creditLimit = (s.station a).creditLimit)
    (burst : t.lineScheduler.burst ≤ 8) : ControlSound t := by
  obtain ⟨pins, port, engine, completion⟩ := stands
  obtain ⟨noAnswerLimit, holdoff, burstLimit⟩ := limits
  have ready := h.line.awake (by simp [running])
  obtain ⟨h1, h2, h3, h4, h5, h6, h7, -⟩ := h.limits
  refine ⟨⟨fun _ => .inl (by rw [engine]; exact running), fun stopping => ?_, fun sweep => ?_, fun reset => ?_⟩,
    ⟨engine ▸ h1, noAnswerLimit ▸ h2, burstLimit ▸ h3, holdoff ▸ h4, completion ▸ h5, completion ▸ h6,
      fun a ha => credit a ▸ h7 a ha, burst⟩, engine ▸ h.echo, engine ▸ h.echoLive, completion ▸ h.coalescing⟩
  · rw [engine, running] at stopping; cases stopping
  · rw [port, ready.2] at sweep; cases sweep
  · rw [pins, ready.1] at reset; cases reset

theorem ControlSound.sendPoll (h : ControlSound s) (running : s.lineEngine.state = .running) (a : Address) :
    ControlSound ((s.setBurst 0).sendPoll a) := by
  unfold State.sendPoll State.reserve
  dsimp only
  split <;> exact h.launched running ⟨rfl, rfl, rfl, rfl⟩ ⟨rfl, rfl, rfl⟩ (fun _ => rfl) (Nat.zero_le 8)

theorem ControlSound.choose (h : ControlSound s) : ControlSound s.choose := by
  unfold State.choose
  split
  · next may =>
    have running : s.lineEngine.state = .running := by
      simp only [State.mayChoose, Bool.and_eq_true, decide_eq_true_eq] at may
      obtain ⟨⟨running, -⟩, -⟩ := may
      exact running
    split
    · next c hc =>
      cases c with
      | cancel n => exact h.launched running ⟨rfl, rfl, rfl, rfl⟩ ⟨rfl, rfl, rfl⟩ (fun _ => rfl) h.limits.burst
      | requestInBurst n =>
        have below := State.choice_requestInBurst hc
        have limit := h.limits.burstLimit.2
        exact h.launched running ⟨rfl, rfl, rfl, rfl⟩ ⟨rfl, rfl, rfl⟩ (fun _ => rfl)
          (show s.lineScheduler.burst + 1 ≤ 8 by omega)
      | poll a => exact h.sendPoll running a
      | requestEmptyRing n =>
        exact h.launched running ⟨rfl, rfl, rfl, rfl⟩ ⟨rfl, rfl, rfl⟩ (fun _ => rfl) (Nat.zero_le 8)
    · exact h
  · exact h

/-! ## The timers (R87, R96, R148, R156) -/

theorem controlKept_expireDeadlines (s : State) : ControlKept s s.expireDeadlines := by
  rw [s.expireDeadlines_frame]
  exact ⟨rfl, rfl, rfl, rfl, rfl, ⟨⟨rfl, rfl, rfl, rfl, rfl, rfl, fun _ => rfl, rfl⟩, id⟩⟩

/-- A change of the Station Table that leaves its limits and every credit limit. -/
theorem controlKept_onStations (s : State) {f : StationTable → StationTable}
    (noAnswerLimit : (f s.stationTable).noAnswerLimit = s.stationTable.noAnswerLimit)
    (holdoff : (f s.stationTable).holdoff = s.stationTable.holdoff)
    (credit : ∀ a, ((s.onStations f).station a).creditLimit = (s.station a).creditLimit) :
    ControlKept s (s.onStations f) :=
  ⟨rfl, rfl, rfl, rfl, rfl, ⟨⟨rfl, noAnswerLimit, rfl, holdoff, rfl, rfl, credit, rfl⟩, id⟩⟩

theorem StationTable.mapEntries_limits (t : StationTable) (f : Station → Station) :
    (t.mapEntries f).noAnswerLimit = t.noAnswerLimit ∧ (t.mapEntries f).holdoff = t.holdoff := by
  unfold StationTable.mapEntries
  exact ⟨rfl, rfl⟩

theorem controlKept_expireHolds (s : State) : ControlKept s s.expireHolds := by
  obtain ⟨noAnswerLimit, holdoff⟩ := s.stationTable.mapEntries_limits Station.expireHold
  refine controlKept_onStations s noAnswerLimit holdoff fun a => ?_
  have entry := s.expireHolds_station a
  rw [State.expireHolds] at entry
  rw [entry]
  unfold Station.expireHold
  split <;> rfl

theorem controlKept_expire (s : State) : ControlKept s (s.onCompletion CompletionUnit.expire) := by
  have same : s.completionUnit.expire.threshold = s.completionUnit.threshold ∧
      s.completionUnit.expire.holdoff = s.completionUnit.holdoff := by
    rw [s.completionUnit.expire_eq]
    split <;> exact ⟨rfl, rfl⟩
  exact ⟨rfl, rfl, rfl, rfl, rfl, ⟨⟨rfl, rfl, rfl, rfl, same.1, same.2, fun _ => rfl, rfl⟩, fun h => h.expire⟩⟩

theorem controlKept_countDown (s : State) : ControlKept s s.countDown := by
  have credit : ∀ a, (s.countDown.station a).creditLimit = (s.station a).creditLimit := fun a => by
    rw [s.countDown_station]
    unfold Station.countDown
    split_ifs <;> rfl
  have frame := s.countDown_frame
  refine ⟨?_, ?_, ?_, ?_, ?_, ⟨⟨?_, ?_, ?_, ?_, ?_, ?_, credit, ?_⟩, ?_⟩⟩ <;> rw [frame]
  exact fun h => h.countDown

theorem ControlSound.stepClock (h : ControlSound s) : ControlSound s.stepClock := by
  unfold State.stepClock
  split
  · exact h
  · have holds := (h.of_kept (controlKept_expireDeadlines s)).of_kept (controlKept_expireHolds _)
    exact (holds.of_kept (controlKept_expire _)).of_kept (controlKept_countDown _)

/-! ## The sweep and the resets (10.4, 10.5) -/

theorem Station.initial_creditLimit {a : Address} (h : a ≠ 0) : (Station.initial a).creditLimit = 2 := by
  rw [Station.initial_of_ne h]

theorem ControlSound.startSweep (h : ControlSound s) (off : s.lineEngine.state = .off)
    (awake : s.pins.reset = false) : ControlSound s.startSweep := by
  obtain ⟨h1, h2, h3, h4, h5, h6, -, -⟩ := h.limits
  refine ⟨⟨nofun, fun stopping => ?_, fun _ => off, fun reset => ?_⟩,
    ⟨h1, h2, h3, h4, h5, h6, fun a ha => ?_, Nat.zero_le 8⟩, h.echo, fun looks => ?_, .sweep _⟩
  · exact absurd (off.symm.trans stopping) (by decide)
  · exact absurd (awake.symm.trans reset) (by decide)
  · rw [s.startSweep_station, Station.initial_creditLimit ha]; decide
  · exact h.echoLive looks

/-- A reset, with no sweep where RESET is asserted. -/
theorem controlSound_resetWith (s : State) (cause : ResetCause) (sweep : Bool)
    (held : s.pins.reset = true → sweep = false) : ControlSound (s.resetWith cause sweep) := by
  refine ⟨⟨nofun, nofun, fun _ => rfl, fun reset => ⟨rfl, held reset⟩⟩, ?_, Nat.zero_le 3, nofun, ?_⟩
  · refine ⟨?_, ?_, ?_, ?_, ?_, Nat.zero_le _, fun a ha => ?_, Nat.zero_le _⟩
    case refine_6 =>
      have entry : (s.resetWith cause sweep).station a = Station.initial a := State.reset_station a
      rw [entry, Station.initial_creditLimit ha]
      decide
    · exact (by decide : 32 ≤ 160 ∧ 160 ≤ 1023)
    · exact (by decide : 1 ≤ 4 ∧ 4 ≤ 15)
    · exact (by decide : 1 ≤ 4 ∧ 4 ≤ 8)
    · exact (by decide : 1 ≤ 20 ∧ 20 ≤ 255)
    · exact (by decide : 1 ≤ 1 ∧ 1 ≤ 32)
  · exact ⟨fun some => absurd rfl some, fun _ => rfl, fun _ => rfl⟩

theorem ControlSound.releaseReset (h : ControlSound s) : ControlSound s.releaseReset := by
  unfold State.releaseReset
  split
  · next held =>
    obtain ⟨off, idle⟩ := h.line.2.2.2 held
    have released : ControlSound (s.onPins fun p => { p with reset := false }) := by
      refine ⟨⟨h.line.1, h.line.2.1, h.line.2.2.1, nofun⟩,
        h.limits.of_stand ⟨rfl, rfl, rfl, rfl, rfl, rfl, fun _ => rfl, rfl⟩, h.echo, h.echoLive, h.coalescing⟩
    exact released.startSweep off rfl
  · exact h

theorem controlSound_assertReset (s : State) : ControlSound s.assertReset :=
  controlSound_resetWith _ .pin false fun _ => rfl

theorem controlSound_powerOn (s : State) : ControlSound s.powerOn := by
  unfold State.powerOn
  split
  · exact controlSound_assertReset s
  · exact (controlSound_assertReset s).releaseReset

theorem ControlSound.endSweep (h : ControlSound s) : ControlSound s.endSweep := by
  unfold State.endSweep
  split
  · next sweeping =>
    have off := h.line.2.2.1 sweeping
    have awake : s.pins.reset = false := Bool.eq_false_iff.2 fun held => by
      simpa [sweeping] using (h.line.2.2.2 held).2
    have idle := h.line.idle (by simp [off])
    have ended : ControlSound
        ((s.onHost fun x => { x with sweep := false }).onCompletion CompletionUnit.latchInitDone) :=
      ⟨lineConsistent_of_idle ⟨awake, rfl⟩ idle (by simp [off]),
        h.limits.of_stand ⟨rfl, rfl, rfl, rfl, rfl, rfl, fun _ => rfl, rfl⟩, h.echo, h.echoLive, h.coalescing⟩
    dsimp only
    split
    · exact ended.enterStarting off ⟨awake, rfl⟩
    · exact ended
  · exact h

/-! ## The registers and the window (10) -/

theorem ControlSound.onHost (h : ControlSound s) {f : HostPort → HostPort}
    (sweep : (f s.hostPort).sweep = s.hostPort.sweep) : ControlSound (s.onHost f) :=
  h.of_kept ⟨rfl, sweep, rfl, rfl, rfl, ⟨⟨rfl, rfl, rfl, rfl, rfl, rfl, fun _ => rfl, rfl⟩, id⟩⟩

/-- A change of the Completion Unit that leaves COALESCE and the coalescing state. -/
theorem ControlSound.onCompletion (h : ControlSound s) {f : CompletionUnit → CompletionUnit}
    (threshold : (f s.completionUnit).threshold = s.completionUnit.threshold)
    (holdoff : (f s.completionUnit).holdoff = s.completionUnit.holdoff)
    (coalescing : CoalescingSound s.completionUnit → CoalescingSound (f s.completionUnit)) :
    ControlSound (s.onCompletion f) :=
  h.of_kept ⟨rfl, rfl, rfl, rfl, rfl, ⟨⟨rfl, rfl, rfl, rfl, threshold, holdoff, fun _ => rfl, rfl⟩, coalescing⟩⟩

theorem ControlSound.reportRefusal (h : ControlSound s) : ControlSound s.reportRefusal :=
  (h.onHost rfl).onCompletion rfl rfl id

theorem ControlSound.tested (h : ControlSound s) {ok : Bool} (accepted : ok = true → ControlSound t) :
    ControlSound (s.tested ok t) := by
  unfold State.tested
  split
  · next hk => exact accepted hk
  · exact h.reportRefusal

theorem fieldOf_lt (w : Word) (lo width : Nat) : fieldOf w lo width < 2 ^ width := (w.extractLsb' lo width).isLt

theorem ControlSound.writeCause (h : ControlSound s) (w : Word) :
    ControlSound (s.onCompletion (CompletionUnit.writeCause w)) := by
  refine h.onCompletion ?_ ?_ fun sound => sound.writeCause w
  · unfold CompletionUnit.writeCause
    dsimp only
    split
    · exact s.completionUnit.clearComplete_threshold
    · rfl
  · unfold CompletionUnit.writeCause
    dsimp only
    split
    · exact s.completionUnit.clearComplete_holdoff
    · rfl

theorem ControlSound.writeControl (h : ControlSound s) (awake : s.pins.reset = false) (w : Word) :
    ControlSound (s.writeControl w) := by
  have stored : ControlSound ((s.onHost fun x => { x with run := w.getLsbD 0 }).onCompletion fun u =>
      { u with interruptEnable := w.getLsbD 1 }) := (h.onHost rfl).onCompletion rfl rfl id
  unfold State.writeControl
  split
  · exact controlSound_resetWith s .chip true fun held => by simp [awake] at held
  · dsimp only
    split
    · exact stored.runOne awake
    · exact stored.runZero

theorem ControlSound.writeLineRate (h : ControlSound s) (w : Word) : ControlSound (s.writeLineRate w) := by
  unfold State.writeLineRate
  split
  · refine h.tested fun _ => h.of_kept ?_
    exact ⟨rfl, rfl, rfl, rfl, rfl, ⟨⟨rfl, rfl, rfl, rfl, rfl, rfl, fun _ => rfl, rfl⟩, id⟩⟩
  · exact h.reportRefusal

theorem ControlSound.writeAnswerWindow (h : ControlSound s) (w : Word) : ControlSound (s.writeAnswerWindow w) := by
  refine h.tested fun ok => ?_
  have low : 32 ≤ fieldOf w 0 10 := by simp_all
  have high := fieldOf_lt w 0 10
  obtain ⟨-, h2, h3, h4, h5, h6, h7, h8⟩ := h.limits
  exact ⟨h.line, ⟨⟨low, Nat.le_of_lt_succ high⟩, h2, h3, h4, h5, h6, h7, h8⟩, h.echo, h.echoLive, h.coalescing⟩

theorem ControlSound.writeStationLimits (h : ControlSound s) (w : Word) : ControlSound (s.writeStationLimits w) := by
  refine h.tested fun ok => ?_
  simp only [Bool.and_eq_true, decide_eq_true_eq] at ok
  obtain ⟨⟨low, burst⟩, high⟩ := ok
  have limit := fieldOf_lt w 0 4
  obtain ⟨h1, -, -, h4, h5, h6, h7, h8⟩ := h.limits
  exact ⟨h.line, ⟨h1, ⟨low, Nat.le_of_lt_succ limit⟩, ⟨burst, high⟩, h4, h5, h6, h7, h8⟩, h.echo, h.echoLive,
    h.coalescing⟩

theorem ControlSound.writeHoldoff (h : ControlSound s) (w : Word) : ControlSound (s.writeHoldoff w) := by
  refine h.tested fun ok => ?_
  have legal : 1 ≤ w.toNat ∧ w.toNat ≤ 255 := by simpa using ok
  obtain ⟨h1, h2, h3, -, h5, h6, h7, h8⟩ := h.limits
  exact ⟨h.line, ⟨h1, h2, h3, legal, h5, h6, h7, h8⟩, h.echo, h.echoLive, h.coalescing⟩

theorem ControlSound.writeCoalesce (h : ControlSound s) (w : Word) : ControlSound (s.writeCoalesce w) := by
  refine h.tested fun ok => ?_
  have legal : 1 ≤ fieldOf w 0 6 ∧ fieldOf w 0 6 ≤ 32 := by simpa using ok
  have holdoff := Nat.le_of_lt_succ (fieldOf_lt w 8 8)
  have fields : (s.completionUnit.setCoalesce (fieldOf w 0 6) (fieldOf w 8 8)).threshold = fieldOf w 0 6 ∧
      (s.completionUnit.setCoalesce (fieldOf w 0 6) (fieldOf w 8 8)).holdoff = fieldOf w 8 8 := by
    rw [s.completionUnit.setCoalesce_eq]
    split_ifs <;> exact ⟨rfl, rfl⟩
  obtain ⟨h1, h2, h3, h4, -, -, h7, h8⟩ := h.limits
  refine ⟨h.line, ⟨h1, h2, h3, h4, ?_, ?_, h7, h8⟩, h.echo, h.echoLive, h.coalescing.setCoalesce _ _⟩
  · rw [State.onCompletion_completionUnit, fields.1]; exact legal
  · rw [State.onCompletion_completionUnit, fields.2]; exact holdoff

theorem ControlSound.onClassifier (h : ControlSound s) (f : Classifier → Classifier) :
    ControlSound (s.onClassifier f) :=
  h.of_kept ⟨rfl, rfl, rfl, rfl, rfl, ⟨⟨rfl, rfl, rfl, rfl, rfl, rfl, fun _ => rfl, rfl⟩, id⟩⟩

theorem ControlSound.writeClassifierSetup (h : ControlSound s) (w : Word) :
    ControlSound (s.writeClassifierSetup w) := by
  unfold State.writeClassifierSetup
  split
  · exact h.onClassifier _
  · exact h.reportRefusal

theorem ControlSound.clearChanges (h : ControlSound s) (high : Bool) (w : Word) :
    ControlSound (s.clearChanges high w) :=
  h.of_kept ⟨rfl, rfl, rfl, rfl, rfl, ⟨⟨rfl, rfl, rfl, rfl, rfl, rfl, fun _ => rfl, rfl⟩, id⟩⟩

/-! ## What the host orders (10.2, 10.3) -/

theorem ControlSound.slotChange (change : SlotChange s n t) (h : ControlSound s) : ControlSound t := by
  have kept : ∀ {u : State}, ControlStands s u → EffectKeeps s u → ControlSound u := fun k e => h.of_kept (k.kept e)
  cases change with
  | allocate free => exact kept (.modifySlot s n _) (.modifySlot s n _)
  | hostWord owned written => exact kept (.modifySlot s n _) (.modifySlot s n _)
  | enqueue passed =>
    exact kept ⟨rfl, rfl, rfl, rfl, rfl, rfl⟩ ⟨⟨rfl, rfl, rfl, rfl, rfl, rfl, fun _ => rfl, rfl⟩, id⟩
  | release owned => exact kept (.modifySlot s n _) (.modifySlot s n _)
  | retire done =>
    exact kept ⟨rfl, rfl, rfl, rfl, rfl, rfl⟩
      ⟨⟨rfl, rfl, rfl, rfl, rfl, rfl, fun _ => rfl, rfl⟩, fun sound => sound.leave n⟩
  | cancelQueued queued => exact kept (.completeSlot s n _ _ _) (.completeSlot s n _ _ _)
  | cancelSending sending => exact kept (.modifySlot s n _) (.modifySlot s n _)
  | cancelWaiting waiting =>
    exact kept ⟨rfl, rfl, rfl, rfl, rfl, rfl⟩ ⟨⟨rfl, rfl, rfl, rfl, rfl, rfl, fun _ => rfl, rfl⟩, id⟩
  | abandon cancelling idle => exact kept (.completeSlot s n _ _ _) (.completeSlot s n _ _ _)

/-- A write of a configuration word leaves a legal credit limit (R73). -/
theorem Station.writeWord_creditLimit {e e' : Station} {k : Fin 8} {w : Word} (written : e.writeWord k w = some e') :
    1 ≤ e'.creditLimit ∧ e'.creditLimit ≤ 8 := by
  unfold Station.writeWord at written
  dsimp only at written
  split at written
  · split at written
    · split at written
      · next legal => cases written; exact legal
      · cases written
    · cases written
  · cases written

theorem ControlSound.stationChange {f : Station → Station} (change : StationChange s a f) (h : ControlSound s) :
    ControlSound (s.modifyStation a f) := by
  have kept : (f (s.station a)).creditLimit = (s.station a).creditLimit → ControlSound (s.modifyStation a f) :=
    fun same => h.of_kept ((ControlStands.modifyStation s a f).kept (EffectKeeps.modifyStation s a same))
  cases change with
  | enable => exact kept rfl
  | disable idle => exact kept rfl
  | revive => exact kept rfl
  | unquarantine tag => exact kept rfl
  | configure written =>
    obtain ⟨h1, h2, h3, h4, h5, h6, h7, h8⟩ := h.limits
    refine ⟨h.line, ⟨h1, h2, h3, h4, h5, h6, fun b hb => ?_, h8⟩, h.echo, h.echoLive, h.coalescing⟩
    rw [State.modifyStation_station]
    split_ifs
    · exact Station.writeWord_creditLimit written
    · exact h7 b hb

theorem ControlSound.hostChange (change : HostChange s t) (awake : s.pins.reset = false) (h : ControlSound s) :
    ControlSound t := by
  cases change with
  | slot k => exact h.slotChange k
  | station k => exact h.stationChange k
  | eventFree head => exact h.of_kept ((ControlStands.onPool s _).kept (.onPool s _))
  | classify f => exact h.onClassifier f
  | sweep off => exact h.startSweep off awake

theorem ControlSound.writeCommand (h : ControlSound s) (code : Word) : ControlSound (s.writeCommand code) := by
  unfold State.writeCommand State.takeCommand
  split
  · exact h
  · next awake =>
    split
    · exact h.onHost rfl
    · have orders := commandBody_orders s code
      split
      · next e =>
        rw [e] at orders
        cases orders with
        | done change => exact (h.hostChange change (by simpa using awake)).onHost rfl
      · exact h.onHost rfl

theorem ControlSound.writeWindow (h : ControlSound s) (awake : s.pins.reset = false) (w : Word) :
    ControlSound (s.writeWindow w) := by
  unfold State.writeWindow
  split
  · next t ht =>
    split at ht
    · cases ht
    · exact (h.hostChange (hostChange_tableWrite ht) awake).onHost rfl
  · exact h.reportRefusal.onHost rfl

theorem ControlSound.readWindow (h : ControlSound s) : ControlSound s.readWindow := by
  have driven : ∀ w, ControlSound (s.driveData w) := fun w =>
    h.of_kept ⟨rfl, rfl, rfl, rfl, rfl, ⟨⟨rfl, rfl, rfl, rfl, rfl, rfl, fun _ => rfl, rfl⟩, id⟩⟩
  unfold State.readWindow
  split
  · exact driven 0
  · split
    · exact (driven _).onHost rfl
    · exact (driven 0).reportRefusal.onHost rfl

theorem ControlSound.writeNamed (h : ControlSound s) (awake : s.pins.reset = false) (w : Word) (r : Register) :
    ControlSound (s.writeNamed w r) := by
  cases r with
  | control => exact h.writeControl awake w
  | status => exact h.onHost (f := fun p => { p with refusedFlag := p.refusedFlag && !w.getLsbD 4 }) rfl
  | cause => exact h.writeCause w
  | causeEnable => exact h.onCompletion (f := fun u => { u with enables := w.setWidth 10 }) rfl rfl id
  | command => exact h.writeCommand w
  | commandArg => exact h.onHost (f := fun p => { p with commandArg := w }) rfl
  | stationChangesLow => exact h.clearChanges false w
  | stationChangesHigh => exact h.clearChanges true w
  | windowAddress => exact h.onHost (f := fun p => { p with windowAddress := w.setWidth 12 }) rfl
  | windowData => exact h.writeWindow awake w
  | lineRate => exact h.writeLineRate w
  | answerWindow => exact h.writeAnswerWindow w
  | stationLimits => exact h.writeStationLimits w
  | holdoff => exact h.writeHoldoff w
  | coalesce => exact h.writeCoalesce w
  | classifierSetup => exact h.writeClassifierSetup w
  | ident | commandResult | completionHead | completionCount | eventHeadA | eventHeadB | poolStatus | lineClock
  | lineErrorRecord | strayRecord => exact h

theorem ControlSound.access (h : ControlSound s) {f : State → State}
    (hf : s.pins.reset = false → ControlSound (f s)) : ControlSound (s.access f) := by
  unfold State.access
  split
  · exact h
  · next awake => exact hf (by simpa using awake)

theorem ControlSound.writeRegister (h : ControlSound s) (select : BitVec 5) (w : Word) :
    ControlSound (s.writeRegister select w) := by
  refine h.access fun awake => ?_
  split
  · exact h.writeNamed awake w _
  · exact h

/-! ## Every command, and the step -/

theorem ControlSound.exec (h : ControlSound s) (c : Instr) :
    ∃ t, Machine.exec c s = .next t ∧ ControlSound t := by
  have control (w : Word) : ControlSound (s.access (·.writeControl w)) := h.access fun awake => h.writeControl awake w
  cases c with
  | allocate => exact ⟨_, rfl, h.writeCommand 1⟩
  | post => exact ⟨_, rfl, h.writeCommand 2⟩
  | release => exact ⟨_, rfl, h.writeCommand 3⟩
  | retire => exact ⟨_, rfl, h.writeCommand 4⟩
  | cancel => exact ⟨_, rfl, h.writeCommand 5⟩
  | stationEnable => exact ⟨_, rfl, h.writeCommand 6⟩
  | stationDisable => exact ⟨_, rfl, h.writeCommand 7⟩
  | revive => exact ⟨_, rfl, h.writeCommand 8⟩
  | unquarantine => exact ⟨_, rfl, h.writeCommand 9⟩
  | eventFree => exact ⟨_, rfl, h.writeCommand 10⟩
  | initialise => exact ⟨_, rfl, h.writeCommand 11⟩
  | unknownCommandCode code => exact ⟨_, rfl, h.writeCommand code⟩
  | runWrite1 w => exact ⟨_, rfl, control w⟩
  | runWrite0 w => exact ⟨_, rfl, control w⟩
  | interruptEnableWrite w => exact ⟨_, rfl, control w⟩
  | chipReset w => exact ⟨_, rfl, control w⟩
  | causeWrite w => exact ⟨_, rfl, h.access fun _ => h.writeCause w⟩
  | refusedFlagClear w => exact ⟨_, rfl, h.access fun awake => h.writeNamed awake w .status⟩
  | stationChangesWrite high w => exact ⟨_, rfl, h.access fun _ => h.clearChanges high w⟩
  | coalesceWrite w => exact ⟨_, rfl, h.access fun _ => h.writeCoalesce w⟩
  | registerWrite select w => exact ⟨_, rfl, h.writeRegister select w⟩
  | windowDataRead => exact ⟨_, rfl, h.readWindow⟩
  | windowDataWrite w => exact ⟨_, rfl, h.access fun awake => h.writeWindow awake w⟩
  | pinReset => exact ⟨_, rfl, controlSound_assertReset s⟩
  | resetRelease => exact ⟨_, rfl, h.releaseReset⟩
  | powerOn => exact ⟨_, rfl, controlSound_powerOn s⟩
  | sweepEnd => exact ⟨_, rfl, h.endSweep⟩
  | lineClockStep => exact ⟨_, rfl, h.stepClock⟩
  | deadlineExpiry => exact ⟨_, rfl, h.of_kept (controlKept_expireDeadlines s)⟩
  | holdExpiry => exact ⟨_, rfl, h.of_kept (controlKept_expireHolds s)⟩
  | coalescingTimerExpiry => exact ⟨_, rfl, h.of_kept (controlKept_expire s)⟩
  | settleEnd => exact ⟨_, rfl, h.endSettle⟩
  | contention => exact ⟨_, rfl, h.contend⟩
  | lfault asserted => exact ⟨_, rfl, h.setLfault asserted⟩
  | turnaroundGapEnd => exact ⟨_, rfl, h.passGap⟩
  | lineSchedulerChoice => exact ⟨_, rfl, h.choose⟩
  | frameCompletelySent => exact ⟨_, rfl, h.frameSent⟩
  | echoFault bit => exact ⟨_, rfl, h.echoMismatch bit⟩
  | answerWindowClose => exact ⟨_, rfl, h.closeWindow⟩
  | answer run => exact ⟨_, rfl, h.takeAnswer run⟩
  | ignoredRun run => exact ⟨_, rfl, h⟩
  | outcomeTaken => exact ⟨_, rfl, h.takeOutcome⟩
  | answerBegins bitTime => exact ⟨_, rfl, h.beginAnswer bitTime⟩

theorem ControlSound.step (h : ControlSound s) (ht : Machine.step s = .next t) : ControlSound t := by
  unfold Machine.step at ht
  split at ht
  · cases ht; exact h
  · next c rest _ =>
    have shorter : ControlSound { s with pending := rest } :=
      h.of_kept ⟨rfl, rfl, rfl, rfl, rfl, ⟨⟨rfl, rfl, rfl, rfl, rfl, rfl, fun _ => rfl, rfl⟩, id⟩⟩
    obtain ⟨u, hu, sound⟩ := shorter.exec c
    rw [hu] at ht
    cases ht
    exact sound

/-- Settles O56: every command keeps the three parts together, since a move of the line needs the line's consistency for
the echo count. -/
theorem stepsKeepLineRegistersAndCoalescing : Obligations.StepsKeepLineRegistersAndCoalescing :=
  fun _ _ ht h => controlSound_iff.1 ((controlSound_iff.2 h).step ht)

end Sys2Proof.Machine
end

-- ==== The resets and the sweep (10) ====
section
/-! SUPPORT. What a reset, the release of RESET, power-on and the end of the sweep leave, what table space shows after the
sweep, and what the assertion of RESET stops (R148, R150, R162, R171 to R174). -/

namespace Sys2Proof.Machine

variable {s t u : State} {n : SlotNo} {a : Address}

/-! ## The start of the line (R138, R145) -/

/-- The Completion Unit with LINE latched where the move is one to FAULT. -/
def CompletionUnit.latchedAt (u : CompletionUnit) (fault : Bool) : CompletionUnit :=
  { u with causes := { u.causes with line := u.causes.line || fault } }

/-- With no exchange in flight the start of the line ends in STARTING, or in FAULT with LFAULT asserted. -/
theorem State.enterStarting_of_none (idle : s.lineScheduler.exchange = none) :
    s.enterStarting =
      { s with
        completionUnit := s.completionUnit.latchedAt s.pins.lfault
        lineScheduler := { s.lineScheduler with burst := 0 }
        lineEngine :=
          { s.lineEngine with
            state := if s.pins.lfault then .fault else .starting, echoCount := 0, gapPassed := false } } := by
  unfold State.enterStarting
  dsimp only
  cases level : s.pins.lfault with
  | false => simp [State.onEngine, State.onScheduler, CompletionUnit.latchedAt]
  | true =>
    rw [if_pos rfl, State.enterFault_of_none]
    · simp [State.onEngine, State.onScheduler, CompletionUnit.latchedAt]
    · exact idle

/-! ## The end of the sweep (R173) -/

/-- The end of a sweep that leaves the line where it is. -/
theorem State.endSweep_stays (sweeping : s.hostPort.sweep = true)
    (stays : s.hostPort.run = false ∨ s.lineEngine.state ≠ .off) :
    s.endSweep =
      (s.onHost fun h => { h with sweep := false }).onCompletion CompletionUnit.latchInitDone := by
  unfold State.endSweep
  rw [if_pos sweeping]
  exact if_neg (by rcases stays with h | h <;> simp [h])

/-- The end of a sweep that starts the line. -/
theorem State.endSweep_starts (sweeping : s.hostPort.sweep = true) (run : s.hostPort.run = true)
    (off : s.lineEngine.state = .off) :
    s.endSweep =
      ((s.onHost fun h => { h with sweep := false }).onCompletion CompletionUnit.latchInitDone).enterStarting := by
  unfold State.endSweep
  rw [if_pos sweeping]
  exact if_pos (by simp [run, off])

/-- Settles O8: RUN says which of `endSweep_stays` and `endSweep_starts` the end of the sweep is. -/
theorem sweepEndClearsInitAndStartsTheLine : Obligations.SweepEndClearsInitAndStartsTheLine := by
  intro s
  refine ⟨fun still => ?_, fun line sweeping => ?_⟩
  · exact congrArg Host.Outcome.next (if_neg (by simp [still]))
  · have off := line.2.2.1 sweeping
    have idle := line.idle (by simp [off])
    cases run : s.hostPort.run with
    | false =>
      have ends := State.endSweep_stays sweeping (.inl run)
      exact ⟨_, congrArg Host.Outcome.next ends, rfl, fun _ => ⟨rfl, rfl, rfl⟩, nofun⟩
    | true =>
      have ends := (State.endSweep_starts sweeping run off).trans (State.enterStarting_of_none idle)
      exact ⟨_, congrArg Host.Outcome.next ends, rfl, nofun, fun _ => ⟨rfl, rfl, rfl⟩⟩

/-! ## Table space after the sweep (R49, R91, R122, R136, R173) -/

/-- Every record of table space is as the sweep leaves it, with no exchange in flight. -/
structure TablesSwept (t : State) : Prop where
  idle    : t.lineScheduler.exchange = none
  slots   : ∀ n, t.slot n = Slot.zero
  station : ∀ a, t.station a = Station.initial a
  entries : ∀ i : EntryNo, t.classifier.table[i] = MatchEntry.zero
  records : ∀ r : RecordNo, t.eventPool.records[r] = EventRecord.zero

theorem tablesSwept_startSweep (s : State) : TablesSwept s.startSweep :=
  ⟨rfl, s.startSweep_slot, s.startSweep_station, s.startSweep_matchEntry, s.startSweep_eventRecord⟩

theorem tablesSwept_chipReset (s : State) : TablesSwept s.chipReset :=
  ⟨rfl, State.reset_slot, State.reset_station, fun _ => by simp [State.chipReset, State.resetWith, State.reset,
    MatchEntry.initialTable], fun _ => by simp [State.chipReset, State.resetWith, State.reset, EventPool.initial]⟩

theorem TablesSwept.enterStarting (h : TablesSwept t) : TablesSwept t.enterStarting := by
  obtain ⟨idle, slots, station, entries, records⟩ := h
  rw [State.enterStarting_of_none idle]
  exact ⟨idle, slots, station, entries, records⟩

theorem TablesSwept.endSweep (h : TablesSwept t) : TablesSwept t.endSweep := by
  obtain ⟨idle, slots, station, entries, records⟩ := h
  cases sweeping : t.hostPort.sweep with
  | false =>
    have stands : t.endSweep = t := if_neg (by simp [sweeping])
    rw [stands]
    exact ⟨idle, slots, station, entries, records⟩
  | true =>
    by_cases starts : t.hostPort.run = true ∧ t.lineEngine.state = .off
    · rw [State.endSweep_starts sweeping starts.1 starts.2]
      exact TablesSwept.enterStarting ⟨idle, slots, station, entries, records⟩
    · rw [State.endSweep_stays sweeping (by simpa [← Bool.not_eq_true, ← not_and_or] using starts)]
      exact ⟨idle, slots, station, entries, records⟩

theorem Slot.word_zero (k : Fin 80) : Slot.zero.word k = 0 := by revert k; decide

theorem Station.word_zero (k : Fin 8) : Station.zero.word k = 0 := by revert k; decide

theorem Station.word_initial {a : Address} (h : a ≠ 0) (k : Fin 8) :
    (Station.initial a).word k = if k.val = 1 then 0x0200 else 0 := by
  rw [Station.initial_of_ne h]
  revert k
  decide

theorem MatchEntry.word_zero (k : Fin 8) : MatchEntry.zero.word k = 0 := by revert k; decide

theorem EventRecord.word_zero (k : Fin 40) : EventRecord.zero.word k = 0 := by revert k; decide

theorem TablesSwept.tableRead (h : TablesSwept u) (addr : BitVec 12) :
    u.tableRead addr =
      if (0xB40 ≤ addr.toNat ∧ addr.toNat < 0xC00) ∨ 0xFC0 ≤ addr.toNat then none
      else if 0xA08 ≤ addr.toNat ∧ addr.toNat < 0xB00 ∧ addr.toNat % 8 = 1 then some 0x0200
      else some 0 := by
  have place := tableWord_address addr
  unfold State.tableRead
  cases e : tableWord addr with
  | slotWord n k =>
    rw [e] at place
    dsimp only at place ⊢
    rw [h.slots, Slot.word_zero, if_neg (by omega), if_neg (by omega)]
  | stationWord a k =>
    rw [e] at place
    dsimp only at place ⊢
    by_cases zero : a = 0
    · subst zero
      rw [if_pos rfl, if_neg (by simp at place; omega), if_neg (by simp at place; omega)]
    · have pos : 1 ≤ a.val := Nat.one_le_iff_ne_zero.2 fun e => zero (Fin.ext e)
      rw [if_neg zero, if_neg (by omega), h.station, Station.word_initial zero]
      by_cases one : k.val = 1
      · rw [if_pos one, if_pos (by omega)]
      · rw [if_neg one, if_neg (by omega)]
  | matchWord i k =>
    rw [e] at place
    dsimp only at place ⊢
    rw [h.entries, MatchEntry.word_zero, if_neg (by omega), if_neg (by omega)]
  | eventWord r k =>
    rw [e] at place
    dsimp only at place ⊢
    rw [h.records, EventRecord.word_zero, if_neg (by omega), if_neg (by omega)]
  | emptyWord =>
    rw [e] at place
    dsimp only at place ⊢
    rw [if_pos place]

/-- Settles O4: each of the three ways to a sweep leaves the tables swept, and the sweep's end leaves them so. -/
theorem sweptTableSpaceIsZeroButConfigurationWords : Obligations.SweptTableSpaceIsZeroButConfigurationWords := by
  intro s t u c start ht hu addr
  have swept : TablesSwept t := by
    obtain ⟨rfl, held⟩ | ⟨rfl, free⟩ | ⟨rfl, ready, off⟩ := start
    · have released : s.releaseReset = (s.onPins fun p => { p with reset := false }).startSweep := if_pos held
      cases ht
      rw [released]
      exact tablesSwept_startSweep _
    · have chip : exec (.chipReset 4) s = .next s.chipReset := exec_chipReset rfl free
      rw [chip] at ht
      cases ht
      exact tablesSwept_chipReset s
    · have taken : exec .initialise s = .next _ :=
        congrArg Host.Outcome.next (takeCommand_done (code := 11) ready (State.initialise_off off))
      rw [taken] at ht
      cases ht
      obtain ⟨idle, slots, station, entries, records⟩ := tablesSwept_startSweep s
      exact ⟨idle, slots, station, entries, records⟩
  cases hu
  exact swept.endSweep.tableRead addr

/-! ## The resets (R150, R171, R172) -/

/-- Settles O5: power-on is the assertion of RESET, and its release unless the board holds RESET asserted. -/
theorem pinResetReleaseAndPowerOn : Obligations.PinResetReleaseAndPowerOn := by
  intro s
  refine ⟨rfl, fun held => ?_, fun free => ?_, fun held => ?_⟩
  · have released : s.releaseReset = (s.onPins fun p => { p with reset := false }).startSweep := if_pos held
    exact ⟨_, congrArg Host.Outcome.next released, sweepStarts_startSweep _, rfl⟩
  · have on : s.powerOn = (s.assertReset.onPins fun p => { p with reset := false }).startSweep :=
      (if_neg (by simp [free])).trans (if_pos rfl)
    refine (congrArg Host.Outcome.next on).trans (congrArg Host.Outcome.next ?_)
    have pins : ({ s.pins with reset := false } : Pins) = s.pins := by rw [← free]
    exact congrArg (fun p : Pins => { State.reset with pending := s.pending, pins := p }) pins
  · have on : s.powerOn = s.assertReset := if_pos held
    refine (congrArg Host.Outcome.next on).trans (congrArg Host.Outcome.next ?_)
    have pins : ({ s.pins with reset := true } : Pins) = s.pins := by rw [← held]
    exact congrArg (fun p : Pins => { State.reset with
      pending := s.pending, pins := p, hostPort := { State.reset.hostPort with sweep := false } }) pins

/-- Settles O7: every row of CONTROL with the bit set is the same write. -/
theorem chipResetResetsAndSweeps : Obligations.ChipResetResetsAndSweeps := by
  intro s w c free bit row
  have chip : isChipReset c = true := by
    simp only [List.mem_cons, List.not_mem_nil, or_false] at row
    obtain rfl | rfl | rfl | rfl | rfl := row
    case inr.inr.inr.inr => simpa [isChipReset] using bit
    all_goals exact bit
  exact exec_chipReset chip free

/-! ## What the assertion of RESET stops (R148, R162, R171) -/

theorem State.access_of_reset (held : s.pins.reset = true) (f : State → State) : s.access f = s := if_pos held

/-- A host's write while RESET is asserted has no effect. -/
theorem exec_hostWrite_of_reset (held : s.pins.reset = true) {c : Instr} (write : isHostWrite c = true) :
    exec c s = .next s := by
  have command (code : Word) (body : State → Verdict) :
      Host.Outcome.next (s.takeCommand code body) = (.next s : Host.Outcome State Fault Refusal) :=
    congrArg Host.Outcome.next (takeCommand_reset held code body)
  have access (f : State → State) :
      Host.Outcome.next (s.access f) = (.next s : Host.Outcome State Fault Refusal) :=
    congrArg Host.Outcome.next (State.access_of_reset held f)
  cases c with
  | allocate | post | release | retire | cancel | stationEnable | stationDisable | revive | unquarantine | eventFree
  | initialise | unknownCommandCode => exact command _ _
  | runWrite1 | runWrite0 | interruptEnableWrite | chipReset | causeWrite | refusedFlagClear | stationChangesWrite
  | coalesceWrite | registerWrite | windowDataWrite => exact access _
  | _ => cases write

/-- Settles O6: every access tests RESET first. -/
theorem noAccessWhileResetIsAsserted : Obligations.NoAccessWhileResetIsAsserted := by
  intro s held
  refine ⟨fun c write => exec_hostWrite_of_reset held write, ?_, readRegister_of_reset held, ?_, fun off => ?_, ?_⟩
  · exact congrArg Host.Outcome.next (if_pos held)
  · simp [State.intr, held]
  · simp [State.de, off]
  · exact congrArg Host.Outcome.next (if_pos held)

end Sys2Proof.Machine
end

-- ==== What the registers read (10.1, 11.1, 11.2) ====
section
/-! SUPPORT. Each word of 11.2 as its fields side by side, high bits first, and the obligation about every register's
reading and reset value (R132, R153, R158, R162, R175, R176). -/

namespace Sys2Proof.Machine

/-! ## Words by their bits -/

/-- Two words are equal when their sixteen bits are. -/
theorem word_ext {v w : Word} (h : ∀ i : Nat, i < 16 → v.getLsbD i = w.getLsbD i) : v = w :=
  BitVec.eq_of_getLsbD_eq h

variable (s : State)

theorem controlWord_eq (run enable : Bool) :
    putBit 0 run ||| putBit 1 enable = 0#14 ++ BitVec.ofBool enable ++ BitVec.ofBool run := by
  refine word_ext fun i hi => ?_
  simp only [BitVec.getLsbD_or, putBit_getLsbD, BitVec.getLsbD_append, BitVec.getLsbD_ofBool]
  interval_cases i <;> simp

theorem State.statusWord_eq :
    s.statusWord = 0#10 ++ BitVec.ofNat 1 s.hostPort.resetCause.code ++ BitVec.ofBool s.hostPort.refusedFlag ++
      BitVec.ofBool s.hostPort.sweep ++ BitVec.ofNat 3 s.lineEngine.state.code := by
  unfold State.statusWord
  refine word_ext fun i hi => ?_
  simp only [BitVec.getLsbD_or, putField_getLsbD, putBit_getLsbD, BitVec.getLsbD_append, BitVec.getLsbD_ofBool,
    BitVec.getLsbD_ofNat]
  interval_cases i <;> simp

theorem State.eventA_eq : s.eventA = decide (s.eventPool.queueA ≠ []) := by
  unfold State.eventA
  cases s.eventPool.queueA <;> rfl

theorem State.eventB_eq : s.eventB = decide (s.eventPool.queueB ≠ []) := by
  unfold State.eventB
  cases s.eventPool.queueB <;> rfl

theorem State.causeWord_eq :
    s.causeWord =
      0#6 ++ BitVec.ofBool s.completionUnit.causes.initDone ++ BitVec.ofBool s.completionUnit.causes.refused ++
        BitVec.ofBool s.completionUnit.causes.stray ++ BitVec.ofBool s.completionUnit.causes.lineError ++
        BitVec.ofBool s.completionUnit.causes.line ++ BitVec.ofBool (decide (s.stationTable.changes ≠ 0)) ++
        BitVec.ofBool s.completionUnit.causes.alert ++ BitVec.ofBool (decide (s.eventPool.queueB ≠ [])) ++
        BitVec.ofBool (decide (s.eventPool.queueA ≠ [])) ++ BitVec.ofBool s.completionUnit.causes.complete := by
  unfold State.causeWord
  refine word_ext fun i hi => ?_
  simp only [BitVec.getLsbD_or, putBit_getLsbD, BitVec.getLsbD_append, BitVec.getLsbD_ofBool]
  interval_cases i <;> simp [s.eventA_eq, s.eventB_eq, State.stationCause]

theorem Result.word_eq (r : Result) :
    r.word =
      match r with
      | .noCommand => 0x0000 | .done => 0x0001 | .nothing => 0x0002 | .wrongState => 0x0003
      | .badRecord .station => 0x0104 | .badRecord .priority => 0x0204 | .badRecord .retryLimit => 0x0304
      | .badRecord .requestLength => 0x0404 | .stationUnavailable => 0x0005 | .quarantined => 0x0006
      | .already => 0x0007 | .busy => 0x0008 | .badOperand => 0x0009 := by
  cases r with
  | badRecord f => cases f <;> decide
  | _ => decide

theorem State.poolStatusWord_eq :
    s.poolStatusWord =
      BitVec.ofNat 5 s.eventPool.queueB.length ++ BitVec.ofNat 5 s.eventPool.queueA.length ++
        BitVec.ofBool s.reserved.isSome ++ BitVec.ofNat 5 s.eventPool.free.length := by
  unfold State.poolStatusWord
  refine word_ext fun i hi => ?_
  simp only [BitVec.getLsbD_or, putField_getLsbD, putBit_getLsbD, BitVec.getLsbD_append, BitVec.getLsbD_ofBool,
    BitVec.getLsbD_ofNat]
  interval_cases i <;> simp

theorem answerWindowWord_eq (window : Nat) : putField 0 10 window = 0#6 ++ BitVec.ofNat 10 window := by
  refine word_ext fun i hi => ?_
  simp only [putField_getLsbD, BitVec.getLsbD_append, BitVec.getLsbD_ofNat]
  interval_cases i <;> simp

theorem stationLimitsWord_eq (noAnswer burst : Nat) :
    putField 0 4 noAnswer ||| putField 8 4 burst =
      0#4 ++ BitVec.ofNat 4 burst ++ 0#4 ++ BitVec.ofNat 4 noAnswer := by
  refine word_ext fun i hi => ?_
  simp only [BitVec.getLsbD_or, putField_getLsbD, BitVec.getLsbD_append, BitVec.getLsbD_ofNat]
  interval_cases i <;> simp

theorem coalesceWord_eq (threshold holdoff : Nat) :
    putField 0 6 threshold ||| putField 8 8 holdoff =
      BitVec.ofNat 8 holdoff ++ 0#2 ++ BitVec.ofNat 6 threshold := by
  refine word_ext fun i hi => ?_
  simp only [BitVec.getLsbD_or, putField_getLsbD, BitVec.getLsbD_append, BitVec.getLsbD_ofNat]
  interval_cases i <;> simp

theorem ErrorRecord.word_eq (e : ErrorRecord) :
    e.word = BitVec.ofNat 2 e.kind.code ++ BitVec.ofNat 5 e.station.val ++ BitVec.ofNat 9 e.time.toNat := by
  unfold ErrorRecord.word
  refine word_ext fun i hi => ?_
  simp only [BitVec.getLsbD_or, putField_getLsbD, BitVec.getLsbD_append, BitVec.getLsbD_ofNat]
  interval_cases i <;> simp

theorem StrayRecord.word_eq (r : StrayRecord) :
    r.word = BitVec.ofNat 5 r.station.val ++ BitVec.ofNat 5 r.tag.val ++ BitVec.ofNat 6 r.time.toNat := by
  unfold StrayRecord.word
  refine word_ext fun i hi => ?_
  simp only [BitVec.getLsbD_or, putField_getLsbD, BitVec.getLsbD_append, BitVec.getLsbD_ofNat]
  interval_cases i <;> simp

theorem classifierSetupWord_eq (enable : Bool) (action : Nat) :
    putBit 0 enable ||| putField 4 2 action = 0#10 ++ BitVec.ofNat 2 action ++ 0#3 ++ BitVec.ofBool enable := by
  refine word_ext fun i hi => ?_
  simp only [BitVec.getLsbD_or, putField_getLsbD, putBit_getLsbD, BitVec.getLsbD_append, BitVec.getLsbD_ofBool,
    BitVec.getLsbD_ofNat]
  interval_cases i <;> simp

/-- The bit of address 0 reads 0 (R89). -/
theorem stationChangesLow_getLsbD (changes : BitVec 32) (i : Fin 16) :
    (changes.extractLsb' 0 16 &&& 0xFFFE).getLsbD i.val = if i = 0 then false else changes.getLsbD i.val := by
  rw [BitVec.getLsbD_and, BitVec.getLsbD_extractLsb']
  fin_cases i <;> simp

theorem stationChangesHigh_getLsbD (changes : BitVec 32) (i : Fin 16) :
    (changes.extractLsb' 16 16).getLsbD i.val = changes.getLsbD (16 + i.val) := by
  rw [BitVec.getLsbD_extractLsb']
  simp

theorem registerAt_empty {select : BitVec 5} (h : 26 ≤ select.toNat) : registerAt select = none :=
  List.getElem?_eq_none h

/-- Settles O3: each register by its word, and the reset values by reading the state at the end of the sweep. -/
theorem registersReadTheStateAndTheirResetValues : Obligations.RegistersReadTheStateAndTheirResetValues := by
  refine ⟨fun s free => ?_, ⟨_, rfl, by decide +kernel⟩, by decide +kernel, by decide +kernel⟩
  have read {select : BitVec 5} (r : Register) (hr : registerAt select = some r) :
      s.readRegister select = s.registerWord r := readRegister_named free hr
  refine ⟨read .ident rfl, (read .control rfl).trans (controlWord_eq _ _), ?status,
    (read .cause rfl).trans s.causeWord_eq, (read .causeEnable rfl).trans ?enable, read .command rfl,
    read .commandArg rfl, (read .commandResult rfl).trans (Result.word_eq _), (read .completionHead rfl).trans ?headC,
    read .completionCount rfl, (read .eventHeadA rfl).trans ?headA, (read .eventHeadB rfl).trans ?headB,
    (read .poolStatus rfl).trans s.poolStatusWord_eq, fun i => ?low, fun i => ?high,
    (read .windowAddress rfl).trans ?address, (read .windowData rfl).trans ?data, (read .lineRate rfl).trans ?rate,
    (read .answerWindow rfl).trans (answerWindowWord_eq _),
    (read .stationLimits rfl).trans (stationLimitsWord_eq _ _), read .holdoff rfl,
    (read .coalesce rfl).trans (coalesceWord_eq _ _), read .lineClock rfl, (read .lineErrorRecord rfl).trans ?error,
    (read .strayRecord rfl).trans (StrayRecord.word_eq _), (read .classifierSetup rfl).trans ?setup,
    fun select empty => readRegister_empty (registerAt_empty empty)⟩
  case status =>
    refine (read .status rfl).trans (s.statusWord_eq.trans ?_)
    cases s.hostPort.resetCause <;> cases s.lineEngine.state <;> rfl
  case enable => exact (BitVec.setWidth_eq_append (by decide)).trans rfl
  case headC => show headWord _ = _; cases s.completionUnit.queue <;> rfl
  case headA => show headWord _ = _; cases s.eventPool.queueA <;> rfl
  case headB => show headWord _ = _; cases s.eventPool.queueB <;> rfl
  case low => rw [read .stationChangesLow rfl]; exact stationChangesLow_getLsbD _ i
  case high => rw [read .stationChangesHigh rfl]; exact stationChangesHigh_getLsbD _ i
  case address => exact (BitVec.setWidth_eq_append (by decide)).trans rfl
  case data =>
    show s.windowWord.getD 0 = _
    unfold State.windowWord
    split <;> rfl
  case rate =>
    show putField 0 3 s.lineEngine.rate.code = _
    cases s.lineEngine.rate <;> decide
  case error =>
    refine (ErrorRecord.word_eq _).trans ?_
    cases s.lineEngine.error.kind <;> rfl
  case setup =>
    refine (classifierSetupWord_eq _ _).trans ?_
    cases s.classifier.defaultAction <;> rfl

end Sys2Proof.Machine
end

-- ==== Writes of the registers (08, 09, 10.1, 10.2) ====
section
/-! SUPPORT. The tests of a command write, the write of CONTROL with either RUN value, the writes that clear, and the tested
writes with what they read back (R89, R137, R154, R157, R158, R161, R163 to R166). -/

namespace Sys2Proof.Machine

variable {s : State}

theorem State.access_of_awake (awake : s.pins.reset = false) (f : State → State) : s.access f = f s :=
  if_neg (by simp [awake])

/-! ## The tests of a command write (R166) -/

theorem commandBody_unknown {code : Word} (h : code = 0 ∨ 11 < code.toNat) :
    commandBody code = State.commandUnknown := by
  unfold commandBody
  split
  case h_12 => rfl
  all_goals next e => rcases h with rfl | h <;> [cases e; omega]

theorem withOperand_station_bad (bad : s.argLow = 0 ∨ 31 < s.argLow) (body : Address → Verdict) :
    withOperand (stationOperand s.hostPort.commandArg) body = .fails .badOperand := by
  rw [stationOperand_none bad]
  rfl

/-- UNQUARANTINE with a bad tag is BAD_OPERAND, whether or not its station operand is one too. -/
theorem State.commandUnquarantine_tag_bad (bad : 31 < s.argHigh) : s.commandUnquarantine = .fails .badOperand := by
  unfold State.commandUnquarantine
  cases stationOperand s.hostPort.commandArg with
  | none => rfl
  | some a => rw [tagOperand_none bad]; rfl

/-- Settles O17: the sweep is tested before the code, and the code before the operand. -/
theorem commandWritesAreTestedInOrder : Obligations.CommandWritesAreTestedInOrder := by
  intro s awake
  have fails {code : Word} {body : State → Verdict} (idle : s.hostPort.sweep = false)
      (hb : body s = .fails .badOperand) :
      Host.Outcome.next (s.takeCommand code body) =
        (.next { s with hostPort := s.denied code .badOperand } : Host.Outcome State Fault Refusal) :=
    congrArg Host.Outcome.next (takeCommand_fails ⟨awake, idle⟩ hb)
  refine ⟨fun c code sweeping command => ?busy, fun code idle unknown => ?code, fun c code idle bad row => ?station,
    fun idle bad => fails idle (State.commandUnquarantine_tag_bad bad), fun c code idle bad row => ?slot⟩
  case busy =>
    cases c with
    | allocate | post | release | retire | cancel | stationEnable | stationDisable | revive | unquarantine | eventFree
    | initialise | unknownCommandCode =>
      cases command
      exact congrArg Host.Outcome.next (takeCommand_sweep awake sweeping _ _)
    | _ => cases command
  case code => exact fails idle (by rw [commandBody_unknown unknown]; rfl)
  case station =>
    simp only [List.mem_cons, Prod.mk.injEq, List.not_mem_nil, or_false] at row
    obtain ⟨rfl, rfl⟩ | ⟨rfl, rfl⟩ | ⟨rfl, rfl⟩ | ⟨rfl, rfl⟩ := row <;>
      exact fails idle (withOperand_station_bad bad _)
  case slot =>
    simp only [List.mem_cons, Prod.mk.injEq, List.not_mem_nil, or_false] at row
    obtain ⟨rfl, rfl⟩ | ⟨rfl, rfl⟩ | ⟨rfl, rfl⟩ | ⟨rfl, rfl⟩ | ⟨rfl, rfl⟩ := row
    case inr.inr.inr.inr => exact fails idle (withOperand_queue_bad (by omega) _)
    all_goals exact fails idle (withOperand_slot_bad bad _)

/-! ## CONTROL (R137, R138, R141, R142, R144) -/

/-- RUN and the interrupt enable stored. -/
def State.storeControl (s : State) (run enable : Bool) : State :=
  { s with
    hostPort := { s.hostPort with run := run }, completionUnit := { s.completionUnit with interruptEnable := enable } }

theorem State.writeControl_one {w : Word} (run : w.getLsbD 0 = true) (chip : w.getLsbD 2 = false) :
    s.writeControl w = (s.storeControl true (w.getLsbD 1)).runOne := by
  unfold State.writeControl
  rw [if_neg (Bool.eq_false_iff.1 chip), if_pos run, run]
  rfl

theorem State.writeControl_zero {w : Word} (run : w.getLsbD 0 = false) (chip : w.getLsbD 2 = false) :
    s.writeControl w = (s.storeControl false (w.getLsbD 1)).runZero := by
  unfold State.writeControl
  rw [if_neg (Bool.eq_false_iff.1 chip), run]
  exact if_neg Bool.false_ne_true

theorem State.runOne_starts (off : s.lineEngine.state = .off) (still : s.hostPort.sweep = false) :
    s.runOne = s.enterStarting := by
  simp [State.runOne, off, still]

/-- Where a RUN value of 1 starts nothing, it moves the line from STOPPING alone. -/
theorem State.runOne_moves (h : ¬ (s.lineEngine.state = .off ∧ s.hostPort.sweep = false)) :
    s.runOne = s.moveLine (if s.lineEngine.state = .stopping then .running else s.lineEngine.state) := by
  unfold State.runOne
  split
  · next off =>
    rw [if_pos (by simpa [off] using h), off, if_neg (by decide), ← off]
    rfl
  · next stopping => rw [stopping, if_pos rfl]
  all_goals next other => rw [other, if_neg (by decide), ← other]; rfl

/-- Settles O22: RUN and the enable are stored first, and the line's move is one of the two above. -/
theorem runOneStartsTheLine : Obligations.RunOneStartsTheLine := by
  intro s w awake line run chip
  have written : exec (.runWrite1 w) s = .next (s.storeControl true (w.getLsbD 1)).runOne :=
    congrArg Host.Outcome.next ((State.access_of_awake awake _).trans (State.writeControl_one run chip))
  by_cases starts : s.lineEngine.state = .off ∧ s.hostPort.sweep = false
  · have idle := line.idle (by simp [starts.1])
    have moved := (State.runOne_starts (s := s.storeControl true (w.getLsbD 1)) starts.1 starts.2).trans
      (State.enterStarting_of_none idle)
    refine ⟨_, written.trans (congrArg Host.Outcome.next moved), rfl, ?_⟩
    rw [if_pos starts]
    exact ⟨rfl, rfl, rfl⟩
  · have moved := State.runOne_moves (s := s.storeControl true (w.getLsbD 1)) starts
    refine ⟨_, written.trans (congrArg Host.Outcome.next moved), rfl, ?_⟩
    rw [if_neg starts]
    exact ⟨rfl, rfl, rfl⟩

/-- The state of the line after a RUN value of 0. -/
def State.stoppedState (s : State) : LineState :=
  match s.lineEngine.state with
  | .starting => .off
  | .running => if s.lineScheduler.exchange = none then .off else .stopping
  | .fault => .off
  | .off => .off
  | .stopping => .stopping

theorem State.runZero_eq :
    s.runZero =
      { s with
        lineEngine := { s.lineEngine with state := s.stoppedState }
        completionUnit :=
          { s.completionUnit with
            causes :=
              { s.completionUnit.causes with
                line := s.completionUnit.causes.line || decide (s.lineEngine.state = .starting) } } } := by
  cases state : s.lineEngine.state with
  | starting => simp [State.runZero, State.stoppedState, state, State.moveLineLatching, State.moveLine, State.onEngine,
      State.onCompletion, CompletionUnit.latchLine]
  | running =>
    cases flight : s.lineScheduler.exchange <;>
      simp [State.runZero, State.stoppedState, state, flight, State.moveLine, State.onEngine]
  | fault => simp [State.runZero, State.stoppedState, state, State.moveLine, State.onEngine]
  | off =>
    have stands : s.runZero = s := by simp [State.runZero, state]
    have same : s.stoppedState = s.lineEngine.state := by simp [State.stoppedState, state]
    simp [stands, same]
  | stopping =>
    have stands : s.runZero = s := by simp [State.runZero, state]
    have same : s.stoppedState = s.lineEngine.state := by simp [State.stoppedState, state]
    simp [stands, same]

/-- Settles O23. -/
theorem runZeroStopsTheLine : Obligations.RunZeroStopsTheLine := by
  intro s w awake run chip
  have written : exec (.runWrite0 w) s = .next (s.storeControl false (w.getLsbD 1)).runZero :=
    congrArg Host.Outcome.next ((State.access_of_awake awake _).trans (State.writeControl_zero run chip))
  rw [State.runZero_eq] at written
  exact written

/-! ## INTR (R158, R161) -/

theorem word_ne_zero_iff {v : Word} : v ≠ 0 ↔ ∃ i, i < 16 ∧ v.getLsbD i = true := by
  constructor
  · intro some
    by_contra none
    refine some (word_ext fun i hi => ?_)
    show v.getLsbD i = (0#16).getLsbD i
    rw [BitVec.getLsbD_zero]
    exact Bool.eq_false_iff.2 fun bit => none ⟨i, hi, bit⟩
  · rintro ⟨i, -, bit⟩ rfl
    simp at bit

/-- INTR by the positions of CAUSE. -/
theorem State.intr_iff :
    s.intr = true ↔ s.pins.reset = false ∧ s.completionUnit.interruptEnable = true ∧
      ∃ i, i < 10 ∧ s.completionUnit.enables.getLsbD i = true ∧ s.causeWord.getLsbD i = true := by
  have bits : (s.causeWord &&& s.completionUnit.enables.setWidth 16) ≠ 0 ↔
      ∃ i, i < 10 ∧ s.completionUnit.enables.getLsbD i = true ∧ s.causeWord.getLsbD i = true := by
    rw [word_ne_zero_iff]
    refine exists_congr fun i => ?_
    rw [BitVec.getLsbD_and, BitVec.getLsbD_setWidth, Bool.and_eq_true, Bool.and_eq_true, decide_eq_true_eq]
    constructor
    · rintro ⟨hi, cause, -, enabled⟩
      exact ⟨BitVec.lt_of_getLsbD enabled, enabled, cause⟩
    · rintro ⟨hi, enabled, cause⟩
      exact ⟨by omega, cause, by omega, enabled⟩
  unfold State.intr
  rw [Bool.and_eq_true, Bool.and_eq_true, Bool.not_eq_true', decide_eq_true_eq, bits, and_assoc]

theorem State.causeWord_getLsbD (i : Nat) :
    s.causeWord.getLsbD i =
      match i with
      | 0 => s.completionUnit.causes.complete
      | 1 => decide (s.eventPool.queueA ≠ [])
      | 2 => decide (s.eventPool.queueB ≠ [])
      | 3 => s.completionUnit.causes.alert
      | 4 => decide (s.stationTable.changes ≠ 0)
      | 5 => s.completionUnit.causes.line
      | 6 => s.completionUnit.causes.lineError
      | 7 => s.completionUnit.causes.stray
      | 8 => s.completionUnit.causes.refused
      | 9 => s.completionUnit.causes.initDone
      | _ => false := by
  simp only [State.causeWord, BitVec.getLsbD_or, putBit_getLsbD, s.eventA_eq, s.eventB_eq, State.stationCause]
  match i with
  | 0 | 1 | 2 | 3 | 4 | 5 | 6 | 7 | 8 | 9 => simp
  | n + 10 => simp

/-- Settles O24: INTR by the ten positions of CAUSE, and the write for the enable as the write of CONTROL that it is. -/
theorem intrFollowsCausesAndEnables : Obligations.IntrFollowsCausesAndEnables := by
  refine ⟨fun s => ?_, fun s w awake chip => ⟨?_, fun _ => rfl, fun _ => rfl⟩⟩
  · rw [State.intr_iff]
    simp only [State.causeWord_getLsbD, Nat.exists_lt_succ_left, Nat.not_lt_zero, false_and, exists_false, or_false,
      decide_eq_true_eq]
  · have written : exec (.interruptEnableWrite w) s = .next (s.writeControl w) :=
      congrArg Host.Outcome.next (State.access_of_awake awake _)
    rintro (⟨run, state⟩ | ⟨run, state⟩)
    · rw [written, State.writeControl_one run chip, run]
      obtain state | state | state := state <;> simp [State.runOne, State.storeControl, state]
    · rw [written, State.writeControl_zero run chip, run]
      obtain state | state := state <;> simp [State.runZero, State.storeControl, state]

end Sys2Proof.Machine
end

-- ==== The writes that clear, and the tested writes (06, 08, 09, 10.1) ====
section
/-! SUPPORT. The writes of CAUSE and of STATION CHANGES, and each tested or plain register write with what it reads back
(R59, R84, R87, R89, R111, R149, R154, R155, R157, R158, R160, R163 to R165, R168, R175). -/

namespace Sys2Proof.Machine

variable {s : State} {w : Word}

/-! ## CAUSE (R157, R158) -/

theorem CompletionUnit.writeCause_keeps (u : CompletionUnit) (w : Word) :
    u.writeCause w =
      { u with
        timer := (u.writeCause w).timer
        causes :=
          { complete := (u.writeCause w).causes.complete
            alert := u.causes.alert && !w.getLsbD 3, line := u.causes.line && !w.getLsbD 5
            lineError := u.causes.lineError && !w.getLsbD 6, stray := u.causes.stray && !w.getLsbD 7
            refused := u.causes.refused && !w.getLsbD 8, initDone := u.causes.initDone && !w.getLsbD 9 } } := by
  unfold CompletionUnit.writeCause Causes.clearOnes
  dsimp only
  split
  · rw [u.clearComplete_eq]
    split_ifs <;> rfl
  · rfl

/-- Settles O25: `writeCause_keeps` for the other causes, and `clearComplete_eq` for COMPLETE and the timer. -/
theorem causeWriteClearsLatchedCauses : Obligations.CauseWriteClearsLatchedCauses := by
  intro s w awake
  refine ⟨_, congrArg Host.Outcome.next (State.access_of_awake awake _), ?_, ?_⟩
  · exact congrArg (fun u : CompletionUnit => { s with completionUnit := u }) (s.completionUnit.writeCause_keeps w)
  · have timer : (s.completionUnit.writeCause w).timer =
        (if w.getLsbD 0 then s.completionUnit.clearComplete else s.completionUnit).timer := rfl
    have complete : (s.completionUnit.writeCause w).causes.complete =
        (if w.getLsbD 0 then s.completionUnit.clearComplete else s.completionUnit).causes.complete := rfl
    rw [State.onCompletion_completionUnit, timer, complete]
    cases bit : w.getLsbD 0 with
    | false => simp
    | true =>
      rw [if_pos rfl, s.completionUnit.clearComplete_eq]
      cases latched : s.completionUnit.causes.complete with
      | false => simp [latched]
      | true =>
        rw [if_pos rfl, if_pos ⟨rfl, rfl⟩]
        split_ifs <;> exact ⟨rfl, rfl⟩

/-! ## STATION CHANGES (R89) -/

theorem stationChangesMask_getLsbD (high : Bool) (w : Word) (a : Address) :
    (if high then w.setWidth 32 <<< 16 else w.setWidth 32 : BitVec 32).getLsbD a.val =
      (w.getLsbD (a.val % 16) && decide (high = decide (16 ≤ a.val))) := by
  have ha := a.isLt
  rcases lt_or_ge a.val 16 with low | upper
  · have place : a.val % 16 = a.val := Nat.mod_eq_of_lt low
    cases high <;> simp [place, low, ha]
  · have place : a.val % 16 = a.val - 16 := by omega
    cases high <;> simp [place, upper, ha]

/-- Settles O26. -/
theorem stationChangesWriteRemovesAddresses : Obligations.StationChangesWriteRemovesAddresses := by
  intro s high w awake
  refine ⟨_, congrArg Host.Outcome.next (State.access_of_awake awake _), rfl, fun a => ?_⟩
  show (s.stationTable.changes &&& ~~~_).getLsbD a.val = _
  rw [BitVec.getLsbD_and, BitVec.getLsbD_not, stationChangesMask_getLsbD]
  simp

/-! ## Fields written and read back -/

theorem fieldOf_eq (w : Word) (lo width : Nat) : fieldOf w lo width = w.toNat / 2 ^ lo % 2 ^ width := by
  rw [fieldOf, BitVec.extractLsb'_toNat, Nat.shiftRight_eq_div_pow]

/-- A field read out of a word and placed again holds the word's own bits. -/
theorem putField_fieldOf_getLsbD (w : Word) (lo width i : Nat) :
    (putField lo width (fieldOf w lo width)).getLsbD i =
      (decide (lo ≤ i) && decide (i - lo < width) && w.getLsbD i) := by
  rw [putField_getLsbD, fieldOf, BitVec.testBit_toNat, BitVec.getLsbD_extractLsb']
  rcases lt_or_ge i 16 with hi | hi
  · by_cases h : lo ≤ i
    · rw [Nat.add_sub_cancel' h]
      simp [hi, h]
    · simp [h]
  · rw [BitVec.getLsbD_of_ge w i hi]
    simp [Nat.not_lt.2 hi]

/-- An accepted write of a register. -/
theorem exec_registerWrite (awake : s.pins.reset = false) {select : BitVec 5} {r : Register}
    (hr : registerAt select = some r) : exec (.registerWrite select w) s = .next (s.writeNamed w r) := by
  refine congrArg Host.Outcome.next ((State.access_of_awake awake _).trans ?_)
  rw [hr]

/-- What a register shows after a write that leaves the pins. -/
theorem readBack {t : State} {select : BitVec 5} {r : Register} {v : Word} (awake : s.pins.reset = false)
    (pins : t.pins = s.pins) (hr : registerAt select = some r) (shown : t.registerWord r = v) :
    t.readRegister select = v :=
  (readRegister_named (by rw [pins]; exact awake) hr).trans shown

theorem State.tested_true {ok : Bool} (h : ok = true) (t : State) : s.tested ok t = t := if_pos h

theorem State.tested_false {ok : Bool} (h : ok = false) (t : State) : s.tested ok t = s.refused :=
  if_neg (by simp [h])

/-! ## COALESCE (R154, R155) -/

theorem coalesceWord_readBack (w : Word) :
    putField 0 6 (fieldOf w 0 6) ||| putField 8 8 (fieldOf w 8 8) = w &&& 0xFF3F := by
  refine word_ext fun i hi => ?_
  simp only [BitVec.getLsbD_or, BitVec.getLsbD_and, putField_fieldOf_getLsbD]
  interval_cases i <;> simp

/-- Settles O27. -/
theorem coalesceWriteSetsThresholdAndHoldoff : Obligations.CoalesceWriteSetsThresholdAndHoldoff := by
  intro s w awake
  have threshold : fieldOf w 0 6 = w.toNat % 64 := by simp [fieldOf_eq]
  have holdoff : fieldOf w 8 8 = w.toNat / 256 := by
    have := w.isLt
    simp [fieldOf_eq]
    omega
  have written : exec (.coalesceWrite w) s = .next (s.writeCoalesce w) :=
    congrArg Host.Outcome.next (State.access_of_awake awake _)
  refine ⟨fun bad => ?_, fun low high => ?_⟩
  · refine written.trans (congrArg Host.Outcome.next (State.tested_false ?_ _))
    rw [threshold]
    simp only [Bool.and_eq_false_iff, decide_eq_false_iff_not]
    omega
  · have accepted : s.writeCoalesce w =
        s.onCompletion (CompletionUnit.setCoalesce (fieldOf w 0 6) (fieldOf w 8 8)) :=
      State.tested_true (by simp [threshold, low, high]) _
    refine ⟨_, written.trans (congrArg Host.Outcome.next accepted), ?_, ?_⟩
    · rw [threshold, holdoff]
      refine congrArg (fun u : CompletionUnit => { s with completionUnit := u }) ?_
      rw [s.completionUnit.setCoalesce_eq]
      split_ifs with reached <;> simp [reached]
    · refine readBack (r := .coalesce) awake rfl rfl (Eq.trans ?_ (coalesceWord_readBack w))
      show putField 0 6 (CompletionUnit.setCoalesce _ _ s.completionUnit).threshold |||
        putField 8 8 (CompletionUnit.setCoalesce _ _ s.completionUnit).holdoff = _
      rw [s.completionUnit.setCoalesce_eq]
      split_ifs <;> rfl

/-! ## The other tested registers (R59, R84, R87, R111, R149) -/

theorem Rate.ofCode_eq_some {n : Nat} (h : n ≤ 3) : ∃ r, Rate.ofCode n = some r ∧ r.code = n := by
  interval_cases n <;> exact ⟨_, rfl, rfl⟩

theorem Rate.ofCode_eq_none {n : Nat} (h : 3 < n) : Rate.ofCode n = none := by
  unfold Rate.ofCode
  split
  case h_5 => rfl
  all_goals omega

theorem Action.ofCode_eq_some {n : Nat} (h : n ≤ 2) : ∃ a, Action.ofCode n = some a ∧ a.code = n := by
  interval_cases n <;> exact ⟨_, rfl, rfl⟩

theorem Action.ofCode_eq_none {n : Nat} (h : 2 < n) : Action.ofCode n = none := by
  unfold Action.ofCode
  split
  case h_4 => rfl
  all_goals omega

/-- A write of LINE RATE (R149). -/
theorem exec_writeLineRate (awake : s.pins.reset = false) :
    if s.lineEngine.state = .off ∧ w.toNat % 8 ≤ 3 then
      ∃ t, exec (.registerWrite 17 w) s = .next t ∧
        t = { s with lineEngine := { s.lineEngine with rate := t.lineEngine.rate } } ∧
        t.readRegister 17 = w &&& 0x0007
    else exec (.registerWrite 17 w) s = .next s.refused := by
  have code : fieldOf w 0 3 = w.toNat % 8 := by simp [fieldOf_eq]
  have written := exec_registerWrite (w := w) (r := .lineRate) (select := 17) awake rfl
  rcases Nat.lt_or_ge 3 (w.toNat % 8) with bad | legal
  · have refused : s.writeLineRate w = s.refused := by
      unfold State.writeLineRate
      rw [code, Rate.ofCode_eq_none bad]
      rfl
    rw [if_neg (by omega)]
    exact written.trans (congrArg Host.Outcome.next refused)
  · obtain ⟨r, some, same⟩ := Rate.ofCode_eq_some legal
    have tested : s.writeLineRate w =
        s.tested (s.lineEngine.state = .off) (s.onEngine fun l => { l with rate := r }) := by
      unfold State.writeLineRate
      rw [code, some]
    by_cases off : s.lineEngine.state = .off
    · rw [if_pos ⟨off, legal⟩]
      have accepted := tested.trans (State.tested_true (by simpa using off) _)
      refine ⟨_, written.trans (congrArg Host.Outcome.next accepted), rfl, ?_⟩
      refine readBack (r := .lineRate) awake rfl rfl ?_
      show putField 0 3 r.code = _
      rw [same, ← code]
      refine word_ext fun i hi => ?_
      simp only [BitVec.getLsbD_and, putField_fieldOf_getLsbD]
      interval_cases i <;> simp
    · rw [if_neg fun h => off h.1]
      exact written.trans (congrArg Host.Outcome.next (tested.trans (State.tested_false (by simpa using off) _)))

/-- A write of ANSWER WINDOW (R149). -/
theorem exec_writeAnswerWindow (awake : s.pins.reset = false) :
    if s.lineEngine.state = .off ∧ 32 ≤ w.toNat % 1024 then
      ∃ t, exec (.registerWrite 18 w) s = .next t ∧
        t = { s with lineEngine := { s.lineEngine with answerWindow := w.toNat % 1024 } } ∧
        t.readRegister 18 = w &&& 0x03FF
    else exec (.registerWrite 18 w) s = .next s.refused := by
  have field : fieldOf w 0 10 = w.toNat % 1024 := by simp [fieldOf_eq]
  have written := exec_registerWrite (w := w) (r := .answerWindow) (select := 18) awake rfl
  split_ifs with legal
  · have accepted : s.writeAnswerWindow w =
        s.onEngine fun l => { l with answerWindow := fieldOf w 0 10 } :=
      State.tested_true (by simpa [field] using legal) _
    refine ⟨_, written.trans (congrArg Host.Outcome.next accepted), by rw [field]; rfl, ?_⟩
    refine readBack (r := .answerWindow) awake rfl rfl ?_
    show putField 0 10 (fieldOf w 0 10) = _
    refine word_ext fun i hi => ?_
    simp only [BitVec.getLsbD_and, putField_fieldOf_getLsbD]
    interval_cases i <;> simp
  · refine written.trans (congrArg Host.Outcome.next (State.tested_false ?_ _))
    rw [field]
    simp only [Bool.and_eq_false_iff, decide_eq_false_iff_not]
    exact not_and_or.1 legal

/-- A write of STATION LIMITS (R59, R84). -/
theorem exec_writeStationLimits (awake : s.pins.reset = false) :
    if 1 ≤ w.toNat % 16 ∧ 1 ≤ w.toNat / 256 % 16 ∧ w.toNat / 256 % 16 ≤ 8 then
      ∃ t, exec (.registerWrite 19 w) s = .next t ∧
        t = { s with
              stationTable := { s.stationTable with noAnswerLimit := w.toNat % 16 },
              lineScheduler := { s.lineScheduler with burstLimit := w.toNat / 256 % 16 } } ∧
        t.readRegister 19 = w &&& 0x0F0F
    else exec (.registerWrite 19 w) s = .next s.refused := by
  have noAnswer : fieldOf w 0 4 = w.toNat % 16 := by simp [fieldOf_eq]
  have burst : fieldOf w 8 4 = w.toNat / 256 % 16 := by simp [fieldOf_eq]
  have written := exec_registerWrite (w := w) (r := .stationLimits) (select := 19) awake rfl
  split_ifs with legal
  · have accepted : s.writeStationLimits w = _ :=
      State.tested_true (by simpa [noAnswer, burst, and_assoc] using legal) _
    refine ⟨_, written.trans (congrArg Host.Outcome.next accepted), by rw [noAnswer, burst]; rfl, ?_⟩
    refine readBack (r := .stationLimits) awake rfl rfl ?_
    show putField 0 4 (fieldOf w 0 4) ||| putField 8 4 (fieldOf w 8 4) = _
    refine word_ext fun i hi => ?_
    simp only [BitVec.getLsbD_or, BitVec.getLsbD_and, putField_fieldOf_getLsbD]
    interval_cases i <;> simp
  · refine written.trans (congrArg Host.Outcome.next (State.tested_false ?_ _))
    rw [noAnswer, burst]
    simp only [Bool.and_eq_false_iff, decide_eq_false_iff_not]
    omega

/-- A write of HOLDOFF (R87). -/
theorem exec_writeHoldoff (awake : s.pins.reset = false) :
    if 1 ≤ w.toNat ∧ w.toNat ≤ 255 then
      ∃ t, exec (.registerWrite 20 w) s = .next t ∧
        t = { s with stationTable := { s.stationTable with holdoff := w.toNat } } ∧ t.readRegister 20 = w
    else exec (.registerWrite 20 w) s = .next s.refused := by
  have written := exec_registerWrite (w := w) (r := .holdoff) (select := 20) awake rfl
  split_ifs with legal
  · have accepted : s.writeHoldoff w = s.onStations fun t => { t with holdoff := w.toNat } :=
      State.tested_true (by simpa using legal) _
    refine ⟨_, written.trans (congrArg Host.Outcome.next accepted), rfl, ?_⟩
    exact readBack (r := .holdoff) awake rfl rfl ((BitVec.ofNat_toNat 16 w).trans w.setWidth_eq)
  · refine written.trans (congrArg Host.Outcome.next (State.tested_false ?_ _))
    simp only [Bool.and_eq_false_iff, decide_eq_false_iff_not]
    omega

/-- A write of CLASSIFIER SETUP (R111). -/
theorem exec_writeClassifierSetup (awake : s.pins.reset = false) :
    if w.toNat / 16 % 4 ≤ 2 then
      ∃ t, exec (.registerWrite 25 w) s = .next t ∧
        t = { s with
              classifier :=
                { s.classifier with enable := w.getLsbD 0, defaultAction := t.classifier.defaultAction } } ∧
        t.readRegister 25 = w &&& 0x0031
    else exec (.registerWrite 25 w) s = .next s.refused := by
  have code : fieldOf w 4 2 = w.toNat / 16 % 4 := by simp [fieldOf_eq]
  have written := exec_registerWrite (w := w) (r := .classifierSetup) (select := 25) awake rfl
  split_ifs with legal
  · obtain ⟨a, some, same⟩ := Action.ofCode_eq_some legal
    have accepted : s.writeClassifierSetup w =
        s.onClassifier fun c => { c with enable := w.getLsbD 0, defaultAction := a } := by
      unfold State.writeClassifierSetup
      rw [code, some]
    refine ⟨_, written.trans (congrArg Host.Outcome.next accepted), rfl, ?_⟩
    refine readBack (r := .classifierSetup) awake rfl rfl ?_
    show putBit 0 (w.getLsbD 0) ||| putField 4 2 a.code = _
    rw [same, ← code]
    refine word_ext fun i hi => ?_
    simp only [BitVec.getLsbD_or, BitVec.getLsbD_and, putBit_getLsbD, putField_fieldOf_getLsbD]
    interval_cases i <;> simp
  · have refused : s.writeClassifierSetup w = s.refused := by
      unfold State.writeClassifierSetup
      rw [code, Action.ofCode_eq_none (by omega)]
      rfl
    exact written.trans (congrArg Host.Outcome.next refused)

/-- Settles O28. -/
theorem testedRegisterWritesAcceptOrRefuseWhole : Obligations.TestedRegisterWritesAcceptOrRefuseWhole :=
  fun _ _ awake => ⟨exec_writeLineRate awake, exec_writeAnswerWindow awake, exec_writeStationLimits awake,
    exec_writeHoldoff awake, exec_writeClassifierSetup awake⟩

/-! ## Plain and ignored writes (R160, R163 to R165, R168) -/

/-- Settles O29. -/
theorem acceptedAndIgnoredRegisterWrites : Obligations.AcceptedAndIgnoredRegisterWrites := by
  intro s w awake
  have written {select : BitVec 5} (r : Register) (hr : registerAt select = some r) :
      exec (.registerWrite select w) s = .next (s.writeNamed w r) := exec_registerWrite awake hr
  refine ⟨⟨_, written .causeEnable rfl, rfl, ?enable⟩, ⟨_, written .commandArg rfl, rfl, ?arg⟩,
    ⟨_, written .windowAddress rfl, rfl, ?address, ?shown⟩, fun one => ?clear, fun zero => ?stands,
    fun select ignored => ?ignored⟩
  case enable =>
    refine readBack (r := .causeEnable) awake rfl rfl ?_
    show (w.setWidth 10).setWidth 16 = _
    refine word_ext fun i hi => ?_
    simp only [BitVec.getLsbD_setWidth, BitVec.getLsbD_and]
    interval_cases i <;> simp
  case arg => exact readBack (r := .commandArg) awake rfl rfl rfl
  case address => exact BitVec.toNat_setWidth 12 w
  case shown =>
    refine readBack (r := .windowAddress) awake rfl rfl ?_
    show (w.setWidth 12).setWidth 16 = _
    refine word_ext fun i hi => ?_
    simp only [BitVec.getLsbD_setWidth, BitVec.getLsbD_and]
    interval_cases i <;> simp
  case clear =>
    refine congrArg Host.Outcome.next ((State.access_of_awake awake _).trans ?_)
    simp only [State.writeStatus, State.onHost, one, Bool.not_true, Bool.and_false]
  case stands =>
    refine (written .status rfl).trans (congrArg Host.Outcome.next ?_)
    simp only [State.writeNamed, State.writeStatus, State.onHost, zero, Bool.not_false, Bool.and_true]
  case ignored =>
    rcases Nat.lt_or_ge select.toNat 26 with named | empty
    · obtain ⟨r, hr, stands⟩ : ∃ r, registerAt select = some r ∧ s.writeNamed w r = s := by
        simp only [List.mem_cons, List.not_mem_nil, or_false] at ignored
        unfold registerAt
        obtain e | e | e | e | e | e | e | e | e | e := (by omega : select.toNat = 0 ∨ select.toNat = 7 ∨
          select.toNat = 8 ∨ select.toNat = 9 ∨ select.toNat = 10 ∨ select.toNat = 11 ∨ select.toNat = 12 ∨
          select.toNat = 22 ∨ select.toNat = 23 ∨ select.toNat = 24) <;> rw [e] <;> exact ⟨_, rfl, rfl⟩
      exact (written r hr).trans (congrArg Host.Outcome.next stands)
    · refine congrArg Host.Outcome.next ((State.access_of_awake awake _).trans ?_)
      rw [registerAt_empty empty]

end Sys2Proof.Machine
end

-- ==== Table space as the window shows it (10.3, 11.4) ====
section
/-! SUPPORT. The words of each record as their fields side by side, high bits first, and a read of WINDOW DATA (R74, R168,
R169, R177). -/

namespace Sys2Proof.Machine

variable {s : State} {addr : BitVec 12}

/-! ## Composite words (11.4) -/

/-- A field from bit 0, the bits above it 0. -/
theorem putField_low {width : Nat} (n : Nat) (h : width ≤ 16) :
    putField 0 width n = (0#(16 - width) ++ BitVec.ofNat width n).cast (Nat.sub_add_cancel h) := by
  rw [putField, BitVec.shiftLeft_zero]
  exact BitVec.setWidth_eq_append h

theorem slotStateWord_eq (code : Nat) (cancel expired flight : Bool) :
    putField 0 3 code ||| putBit 4 cancel ||| putBit 5 expired ||| putBit 6 flight =
      0#9 ++ BitVec.ofBool flight ++ BitVec.ofBool expired ++ BitVec.ofBool cancel ++ 0#1 ++ BitVec.ofNat 3 code := by
  refine word_ext fun i hi => ?_
  simp only [BitVec.getLsbD_or, putField_getLsbD, putBit_getLsbD, BitVec.getLsbD_append, BitVec.getLsbD_ofBool,
    BitVec.getLsbD_ofNat]
  interval_cases i <;> simp

theorem slotAttemptsWord_eq (attempts cancels : Nat) :
    putField 0 4 attempts ||| putField 8 2 cancels =
      0#6 ++ BitVec.ofNat 2 cancels ++ 0#4 ++ BitVec.ofNat 4 attempts := by
  refine word_ext fun i hi => ?_
  simp only [BitVec.getLsbD_or, putField_getLsbD, BitVec.getLsbD_append, BitVec.getLsbD_ofNat]
  interval_cases i <;> simp

theorem stationConfigWord_eq (mode limit : Nat) :
    putField 0 2 mode ||| putField 8 4 limit = 0#4 ++ BitVec.ofNat 4 limit ++ 0#6 ++ BitVec.ofNat 2 mode := by
  refine word_ext fun i hi => ?_
  simp only [BitVec.getLsbD_or, putField_getLsbD, BitVec.getLsbD_append, BitVec.getLsbD_ofNat]
  interval_cases i <;> simp

theorem Ack.word_eq (ack : Ack) :
    ack.word =
      match ack with
      | .noAck => 0
      | .reply tag => 0#6 ++ 1#2 ++ 0#3 ++ BitVec.ofNat 5 tag.val
      | .event => 0x0200 := by
  cases ack with
  | noAck => rfl
  | reply tag => revert tag; decide
  | event => decide

theorem matchControlWord_eq (enabled join invert alert : Bool) (path action : Nat) :
    putBit 0 enabled ||| putBit 1 join ||| putBit 2 invert ||| putField 4 2 path ||| putField 8 2 action |||
        putBit 12 alert =
      0#3 ++ BitVec.ofBool alert ++ 0#2 ++ BitVec.ofNat 2 action ++ 0#2 ++ BitVec.ofNat 2 path ++ 0#1 ++
        BitVec.ofBool invert ++ BitVec.ofBool join ++ BitVec.ofBool enabled := by
  refine word_ext fun i hi => ?_
  simp only [BitVec.getLsbD_or, putField_getLsbD, putBit_getLsbD, BitVec.getLsbD_append, BitVec.getLsbD_ofBool,
    BitVec.getLsbD_ofNat]
  interval_cases i <;> simp

theorem matchFilterWord_eq (filter offset : Nat) :
    putField 0 8 filter ||| putField 8 8 offset = BitVec.ofNat 8 offset ++ BitVec.ofNat 8 filter := by
  refine word_ext fun i hi => ?_
  simp only [BitVec.getLsbD_or, putField_getLsbD, BitVec.getLsbD_append, BitVec.getLsbD_ofNat]
  interval_cases i <;> simp

theorem eventHeaderWord_eq (station queue : Nat) (relayed repeated alert : Bool) :
    putField 0 5 station ||| putBit 8 relayed ||| putBit 9 repeated ||| putField 10 1 queue ||| putBit 11 alert =
      0#4 ++ BitVec.ofBool alert ++ BitVec.ofNat 1 queue ++ BitVec.ofBool repeated ++ BitVec.ofBool relayed ++ 0#3 ++
        BitVec.ofNat 5 station := by
  refine word_ext fun i hi => ?_
  simp only [BitVec.getLsbD_or, putField_getLsbD, putBit_getLsbD, BitVec.getLsbD_append, BitVec.getLsbD_ofBool,
    BitVec.getLsbD_ofNat]
  interval_cases i <;> simp

theorem eventLengthWord_eq (chain length : Nat) :
    putField 0 4 chain ||| putField 8 7 length = 0#1 ++ BitVec.ofNat 7 length ++ 0#4 ++ BitVec.ofNat 4 chain := by
  refine word_ext fun i hi => ?_
  simp only [BitVec.getLsbD_or, putField_getLsbD, BitVec.getLsbD_append, BitVec.getLsbD_ofNat]
  interval_cases i <;> simp

theorem eventRelayWord_eq (origin : Octet) (hop : Nat) :
    origin.setWidth 16 ||| putField 8 2 hop = 0#6 ++ BitVec.ofNat 2 hop ++ origin := by
  refine word_ext fun i hi => ?_
  simp only [BitVec.getLsbD_or, putField_getLsbD, BitVec.getLsbD_append, BitVec.getLsbD_ofNat,
    BitVec.getLsbD_setWidth]
  interval_cases i <;> simp

/-! ## Payload words -/

theorem vector_getD_eq {α : Type} {n : Nat} (v : Vector α n) (k : Fin n) (d : α) : v.toList.getD k.val d = v[k] := by
  rw [List.getD_eq_getElem _ _ (by simp)]
  simp

theorem Slot.word_request (r : Slot) (k : Fin 32) : r.word ⟨16 + k.val, by omega⟩ = r.request[k] := by
  rw [← vector_getD_eq r.request k 0]
  unfold Slot.word
  split
  case h_14 =>
    rw [if_neg (by simp), if_pos (by have := k.isLt; dsimp only; omega)]
    exact congrArg (r.request.toList.getD · 0) (Nat.add_sub_cancel_left 16 k.val)
  all_goals next e => exact absurd e (by dsimp only; omega)

theorem Slot.word_reply (r : Slot) (k : Fin 32) : r.word ⟨48 + k.val, by omega⟩ = r.reply[k] := by
  rw [← vector_getD_eq r.reply k 0]
  unfold Slot.word
  split
  case h_14 =>
    rw [if_neg (by dsimp only; omega), if_neg (by dsimp only; omega)]
    exact congrArg (r.reply.toList.getD · 0) (Nat.add_sub_cancel_left 48 k.val)
  all_goals next e => exact absurd e (by dsimp only; omega)

theorem EventRecord.word_payload (r : EventRecord) (k : Fin 32) : r.word ⟨8 + k.val, by omega⟩ = r.payload[k] := by
  rw [← vector_getD_eq r.payload k 0]
  unfold EventRecord.word
  split
  case h_5 =>
    rw [if_neg (by simp)]
    exact congrArg (r.payload.toList.getD · 0) (Nat.add_sub_cancel_left 8 k.val)
  all_goals next e => exact absurd e (by dsimp only; omega)

/-! ## A read of table space (R169, R177) -/

theorem State.tableRead_slot {n : SlotNo} (k : Fin 80) (h : addr.toNat = 80 * n.val + k.val) :
    s.tableRead addr = some ((s.slot n).word k) := by
  rw [State.tableRead, tableWord_slot addr h]

theorem State.tableRead_station {a : Address} {k : Fin 8} (h : addr.toNat = 0xA00 + 8 * a.val + k.val) :
    s.tableRead addr = some (if a = 0 then 0 else (s.station a).word k) := by
  rw [State.tableRead, tableWord_station addr h]
  dsimp only
  split <;> rfl

theorem State.tableRead_match {i : EntryNo} {k : Fin 8} (h : addr.toNat = 0xB00 + 8 * i.val + k.val) :
    s.tableRead addr = some (s.classifier.table[i].word k) := by
  rw [State.tableRead, tableWord_match addr h]

theorem State.tableRead_event {r : RecordNo} (k : Fin 40) (h : addr.toNat = 0xC00 + 40 * r.val + k.val) :
    s.tableRead addr = some (s.eventPool.records[r].word k) := by
  rw [State.tableRead, tableWord_event addr h]

theorem State.tableRead_empty (h : (0xB40 ≤ addr.toNat ∧ addr.toNat < 0xC00) ∨ 0xFC0 ≤ addr.toNat) :
    s.tableRead addr = none := by
  rw [State.tableRead, tableWord_empty addr h]

/-- Settles O31: the address names the record and the word, and each composite word is its fields side by side. -/
theorem tableSpaceShowsTheRecords : Obligations.TableSpaceShowsTheRecords := by
  intro s addr
  refine ⟨fun n => ⟨fun k h => ?slotHeader, fun k => ⟨fun h => ?request, fun h => ?reply⟩⟩, fun a k h => ?station,
    fun i k h => ?entry, fun r => ⟨fun k h => ?eventHeader, fun k h => ?payload⟩⟩
  case slotHeader =>
    refine (State.tableRead_slot ⟨k.val, by omega⟩ h).trans (congrArg some ?_)
    clear h
    fin_cases k
    · exact slotStateWord_eq _ _ _ _
    -- words 1 to 6 hold one field each
    iterate 6 · rfl
    · exact slotAttemptsWord_eq _ _
    · exact putField_low _ (by decide)
    · exact BitVec.setWidth_eq_append (by decide)
    · exact putField_low _ (by decide)
    all_goals rfl
  case request =>
    refine (State.tableRead_slot (n := n) ⟨16 + k.val, by omega⟩ (by dsimp only; omega)).trans (congrArg some ?_)
    exact Slot.word_request _ k
  case reply =>
    refine (State.tableRead_slot (n := n) ⟨48 + k.val, by omega⟩ (by dsimp only; omega)).trans (congrArg some ?_)
    exact Slot.word_reply _ k
  case station =>
    refine (State.tableRead_station h).trans (congrArg some (if_congr Iff.rfl rfl ?_))
    clear h
    fin_cases k
    · exact putField_low _ (by decide)
    · exact stationConfigWord_eq _ _
    · exact stationLimitsWord_eq _ _
    · exact putField_low _ (by decide)
    · exact Ack.word_eq _
    all_goals rfl
  case entry =>
    refine (State.tableRead_match h).trans (congrArg some ?_)
    clear h
    fin_cases k
    · exact matchControlWord_eq _ _ _ _ _ _
    · exact matchFilterWord_eq _ _
    all_goals rfl
  case eventHeader =>
    refine (State.tableRead_event ⟨k.val, by omega⟩ h).trans (congrArg some ?_)
    clear h
    fin_cases k
    · exact eventHeaderWord_eq _ _ _ _ _
    · exact eventLengthWord_eq _ _
    · exact eventRelayWord_eq _ _
    all_goals rfl
  case payload =>
    refine (State.tableRead_event (r := r) ⟨8 + k.val, by omega⟩ (by dsimp only; omega)).trans (congrArg some ?_)
    exact EventRecord.word_payload _ k

/-! ## A read of WINDOW DATA (R168, R169) -/

theorem State.exists_tableRead
    (h : ¬ ((0xB40 ≤ addr.toNat ∧ addr.toNat < 0xC00) ∨ 0xFC0 ≤ addr.toNat)) : ∃ w, s.tableRead addr = some w := by
  have place := tableWord_address addr
  cases e : tableWord addr with
  | slotWord n k => rw [e] at place; exact ⟨_, State.tableRead_slot k place⟩
  | stationWord a k => rw [e] at place; exact ⟨_, State.tableRead_station place⟩
  | matchWord i k => rw [e] at place; exact ⟨_, State.tableRead_match place⟩
  | eventWord r k => rw [e] at place; exact ⟨_, State.tableRead_event k place⟩
  | emptyWord => rw [e] at place; exact absurd place h

theorem State.readWindow_none (awake : s.pins.reset = false) (h : s.windowWord = none) :
    s.readWindow = { s.refused.windowStepped with pins := { s.pins with dataOut := 0 } } := by
  unfold State.readWindow
  rw [if_neg (by simp [awake]), h]
  rfl

theorem State.readWindow_some (awake : s.pins.reset = false) {w : Word} (h : s.windowWord = some w) :
    s.readWindow = { s.windowStepped with pins := { s.pins with dataOut := w } } := by
  unfold State.readWindow
  rw [if_neg (by simp [awake]), h]
  rfl

/-- Settles O30. -/
theorem windowReadDrivesTheWord : Obligations.WindowReadDrivesTheWord := by
  intro s awake
  split_ifs with refused
  · refine congrArg Host.Outcome.next (State.readWindow_none awake ?_)
    unfold State.windowWord
    rcases refused with sweeping | empty
    · exact if_pos sweeping
    · rw [State.tableRead_empty empty]; exact ite_self none
  · obtain ⟨still, there⟩ := not_or.1 refused
    obtain ⟨w, hw⟩ := State.exists_tableRead (s := s) there
    exact ⟨w, hw, congrArg Host.Outcome.next (State.readWindow_some awake ((if_neg still).trans hw))⟩

end Sys2Proof.Machine
end

-- ==== Writes of WINDOW DATA (10.3) ====
section
/-! SUPPORT. What an accepted write of a word changes in its record and in table space, when a write is refused, and the two
obligations about writes of WINDOW DATA (R24, R73, R109, R164, R168, R170). -/

namespace Sys2Proof.Machine

variable {s t : State} {addr addr' : BitVec 12} {n : SlotNo} {a : Address} {i : EntryNo} {w placed : Word}

/-! ## One word of a slot's record replaced -/

/-- The words of a slot: sixteen of the header, 32 of the request, 32 of the reply. -/
theorem slotWord_cases {p : Fin 80 → Prop} (header : ∀ k : Fin 16, p ⟨k.val, by omega⟩)
    (request : ∀ k : Fin 32, p ⟨16 + k.val, by omega⟩) (reply : ∀ k : Fin 32, p ⟨48 + k.val, by omega⟩)
    (j : Fin 80) : p j := by
  obtain ⟨j, hj⟩ := j
  rcases Nat.lt_or_ge j 16 with low | _
  · exact header ⟨j, low⟩
  · rcases Nat.lt_or_ge j 48 with middle | _
    · have place := request ⟨j - 16, by omega⟩
      simpa only [Nat.add_sub_cancel' (by omega : 16 ≤ j)] using place
    · have place := reply ⟨j - 48, by omega⟩
      simpa only [Nat.add_sub_cancel' (by omega : 48 ≤ j)] using place

/-- A write of a host word that is accepted, field by field. -/
inductive Slot.Writes (r : Slot) (w : Word) : Fin 80 → Slot → Prop
  | station : Slot.Writes r w 1 { r with station := w }
  | priority : Slot.Writes r w 2 { r with priority := w }
  | retryLimit : Slot.Writes r w 3 { r with retryLimit := w }
  | deadline : Slot.Writes r w 4 { r with deadline := w }
  | requestLength : Slot.Writes r w 5 { r with requestLength := w }
  | request (k : Fin 32) : Slot.Writes r w ⟨16 + k.val, by omega⟩ { r with request := r.request.set k.val w }

/-- Every host word has its write. -/
theorem Slot.exists_writes (r : Slot) (w : Word) {k : Fin 80} (h : 1 ≤ k.val ∧ k.val ≤ 5 ∨ 16 ≤ k.val ∧ k.val ≤ 47) :
    ∃ r', r.writeWord k w = some r' ∧ r.Writes w k r' := by
  obtain ⟨k, hk⟩ := k
  dsimp only at h
  rcases h with ⟨low, high⟩ | ⟨low, high⟩
  · interval_cases k
    · exact ⟨_, rfl, .station⟩
    · exact ⟨_, rfl, .priority⟩
    · exact ⟨_, rfl, .retryLimit⟩
    · exact ⟨_, rfl, .deadline⟩
    · exact ⟨_, rfl, .requestLength⟩
  · obtain ⟨m, rfl⟩ : ∃ m : Fin 32, k = 16 + m.val := ⟨⟨k - 16, by omega⟩, by dsimp only; omega⟩
    refine ⟨{ r with request := r.request.set m.val w }, ?_, .request m⟩
    unfold Slot.writeWord
    split
    case h_6 =>
      rw [dif_pos ⟨low, by dsimp only; omega⟩]
      simp only [Nat.add_sub_cancel_left]
    all_goals next e => exact absurd e (by dsimp only; omega)

theorem Slot.writeWord_eq_none (r : Slot) (w : Word) {k : Fin 80}
    (h : k.val = 0 ∨ 6 ≤ k.val ∧ k.val ≤ 15 ∨ 48 ≤ k.val) : r.writeWord k w = none := by
  unfold Slot.writeWord
  split
  case h_6 => rw [dif_neg (by omega)]
  all_goals next e => omega

theorem Slot.Writes.word {r r' : Slot} {k : Fin 80} (h : r.Writes w k r') (j : Fin 80) :
    r'.word j = if j.val = k.val then w else r.word j := by
  cases h with
  | request k =>
    revert j
    refine slotWord_cases (fun j => ?_) (fun j => ?_) fun j => ?_
    · rw [if_neg (by dsimp only; omega)]
      fin_cases j <;> rfl
    · rw [Slot.word_request, Slot.word_request]
      simp only [Fin.getElem_fin, Vector.getElem_set, Nat.add_left_cancel_iff]
      exact if_congr eq_comm rfl rfl
    · rw [Slot.word_reply, Slot.word_reply, if_neg (by dsimp only; omega)]
  | _ =>
    revert j
    refine slotWord_cases (fun j => ?_) (fun j => ?_) fun j => ?_
    · fin_cases j <;> rfl
    · rw [Slot.word_request, Slot.word_request, if_neg (by simp; omega)]
    · rw [Slot.word_reply, Slot.word_reply, if_neg (by simp; omega)]

/-! ## One word of a station's entry or of a match entry replaced -/

theorem PollMode.ofCode_eq_some {m : Nat} (h : m ≤ 2) : ∃ p, PollMode.ofCode m = some p ∧ p.code = m := by
  interval_cases m <;> exact ⟨_, rfl, rfl⟩

theorem PathTest.ofCode_eq_some {m : Nat} (h : m ≤ 2) : ∃ p, PathTest.ofCode m = some p ∧ p.code = m := by
  interval_cases m <;> exact ⟨_, rfl, rfl⟩

theorem PollMode.ofCode_three : PollMode.ofCode 3 = none := rfl

theorem PathTest.ofCode_three : PathTest.ofCode 3 = none := rfl

theorem Action.ofCode_three : Action.ofCode 3 = none := rfl

/-- An accepted write of a configuration word (R73). -/
theorem Station.exists_writeWord (e : Station) (mode : fieldOf w 0 2 ≤ 2)
    (limit : 1 ≤ fieldOf w 8 4 ∧ fieldOf w 8 4 ≤ 8) :
    ∃ e', e.writeWord 1 w = some e' ∧ e'.holdDue = e.holdDue ∧
      ∀ j : Fin 8, e'.word j = if j.val = 1 then w &&& 0x0F03 else e.word j := by
  obtain ⟨p, some, same⟩ := PollMode.ofCode_eq_some mode
  refine ⟨{ e with pollMode := p, creditLimit := fieldOf w 8 4 }, ?_, rfl, fun j => ?_⟩
  · unfold Station.writeWord
    rw [if_pos (by rfl)]
    dsimp only
    rw [some]
    exact if_pos limit
  · fin_cases j
    · rfl
    · show putField 0 2 p.code ||| putField 8 4 (fieldOf w 8 4) = w &&& 0x0F03
      rw [same]
      refine word_ext fun i hi => ?_
      simp only [BitVec.getLsbD_or, BitVec.getLsbD_and, putField_fieldOf_getLsbD]
      interval_cases i <;> simp
    all_goals rfl

/-- An accepted write of a match entry's control word (R109). -/
theorem MatchEntry.exists_writeWord_control (e : MatchEntry) (path : fieldOf w 4 2 ≤ 2) (action : fieldOf w 8 2 ≤ 2) :
    ∃ e', e.writeWord 0 w = some e' ∧ ∀ j : Fin 8, e'.word j = if j.val = 0 then w &&& 0x1337 else e.word j := by
  obtain ⟨p, somePath, samePath⟩ := PathTest.ofCode_eq_some path
  obtain ⟨q, someAction, sameAction⟩ := Action.ofCode_eq_some action
  refine ⟨{ e with enabled := w.getLsbD 0, joinPrevious := w.getLsbD 1, invert := w.getLsbD 2, path := p, action := q,
                   alert := w.getLsbD 12 }, ?_, fun j => ?_⟩
  · show (match PathTest.ofCode (fieldOf w 4 2), Action.ofCode (fieldOf w 8 2) with
      | some p, some a => _
      | _, _ => none) = _
    rw [somePath, someAction]
  · fin_cases j
    · show putBit 0 _ ||| putBit 1 _ ||| putBit 2 _ ||| putField 4 2 p.code ||| putField 8 2 q.code ||| putBit 12 _ =
        w &&& 0x1337
      rw [samePath, sameAction]
      refine word_ext fun i hi => ?_
      simp only [BitVec.getLsbD_or, BitVec.getLsbD_and, putBit_getLsbD, putField_fieldOf_getLsbD]
      interval_cases i <;> simp
    all_goals rfl

/-- An accepted write of a match entry's second word (R109). -/
theorem MatchEntry.exists_writeWord_filter (e : MatchEntry) (filter : fieldOf w 0 8 < 32) (offset : fieldOf w 8 8 < 64) :
    ∃ e', e.writeWord 1 w = some e' ∧ ∀ j : Fin 8, e'.word j = if j.val = 1 then w else e.word j := by
  refine ⟨{ e with stationFilter := ⟨fieldOf w 0 8, filter⟩, offset := ⟨fieldOf w 8 8, offset⟩ },
    dif_pos ⟨filter, offset⟩, fun j => ?_⟩
  fin_cases j
  · rfl
  · show putField 0 8 (fieldOf w 0 8) ||| putField 8 8 (fieldOf w 8 8) = w
    refine word_ext fun i hi => ?_
    simp only [BitVec.getLsbD_or, putField_fieldOf_getLsbD]
    interval_cases i <;> simp
  all_goals rfl

/-- A write of the byte mask or of the signature is accepted whole. -/
theorem MatchEntry.exists_writeWord_plain (e : MatchEntry) (w : Word) {k : Fin 8} (h : k = 2 ∨ k = 3) :
    ∃ e', e.writeWord k w = some e' ∧ ∀ j : Fin 8, e'.word j = if j.val = k.val then w else e.word j := by
  obtain rfl | rfl := h
  · exact ⟨_, rfl, fun j => by fin_cases j <;> rfl⟩
  · exact ⟨_, rfl, fun j => by fin_cases j <;> rfl⟩

/-! ## One word of table space replaced -/

/-- The word at an address replaced, with every other word left. -/
abbrev WordReplaced (s t : State) (addr : BitVec 12) (placed : Word) : Prop :=
  t.tableRead addr = some placed ∧ ∀ other, other ≠ addr → t.tableRead other = s.tableRead other

theorem wordReplaced_modifySlot {k : Fin 80} (place : addr.toNat = 80 * n.val + k.val) {r : Slot}
    (word : ∀ j, r.word j = if j.val = k.val then placed else (s.slot n).word j) :
    WordReplaced s (s.modifySlot n fun _ => r) addr placed := by
  refine ⟨?_, fun other ne => ?_⟩
  · rw [State.tableRead_slot k place, s.modifySlot_slot_self, word, if_pos rfl]
  · have there := tableWord_address other
    unfold State.tableRead
    cases e : tableWord other with
    | slotWord m j =>
      rw [e] at there
      dsimp only at there ⊢
      rw [s.modifySlot_slot]
      split_ifs with same
      · rw [word, if_neg fun h => ne (BitVec.eq_of_toNat_eq (by rw [there, place, h, same])), same]
      · rfl
    | _ => rfl

theorem wordReplaced_modifyStation {k : Fin 8} (place : addr.toNat = 0xA00 + 8 * a.val + k.val) (station : a ≠ 0)
    {e : Station} (word : ∀ j, e.word j = if j.val = k.val then placed else (s.station a).word j) :
    WordReplaced s (s.modifyStation a fun _ => e) addr placed := by
  refine ⟨?_, fun other ne => ?_⟩
  · rw [State.tableRead_station place, s.modifyStation_station_self, if_neg station, word, if_pos rfl]
  · have there := tableWord_address other
    unfold State.tableRead
    cases h : tableWord other with
    | stationWord b j =>
      rw [h] at there
      dsimp only at there ⊢
      rw [s.modifyStation_station]
      by_cases same : b = a
      · obtain rfl := same
        rw [if_pos rfl, if_neg station, if_neg station, word,
          if_neg fun h => ne (BitVec.eq_of_toNat_eq (by rw [there, place, h]))]
      · rw [if_neg same]
    | _ => rfl

/-- The state with a match entry replaced. -/
def State.setEntry (s : State) (i : EntryNo) (e : MatchEntry) : State :=
  s.onClassifier fun c => { c with table := c.table.set i.val e }

theorem State.setEntry_table (s : State) (i j : EntryNo) (e : MatchEntry) :
    (s.setEntry i e).classifier.table[j] = if j = i then e else s.classifier.table[j] := by
  show (s.classifier.table.set i.val e)[j.val] = _
  rw [Vector.getElem_set]
  exact if_congr (by rw [Fin.ext_iff, eq_comm]) rfl rfl

theorem wordReplaced_setEntry {k : Fin 8} (place : addr.toNat = 0xB00 + 8 * i.val + k.val) {e : MatchEntry}
    (word : ∀ j, e.word j = if j.val = k.val then placed else s.classifier.table[i].word j) :
    WordReplaced s (s.setEntry i e) addr placed := by
  refine ⟨?_, fun other ne => ?_⟩
  · rw [State.tableRead_match place, s.setEntry_table, if_pos rfl, word, if_pos rfl]
  · have there := tableWord_address other
    unfold State.tableRead
    cases h : tableWord other with
    | matchWord l j =>
      rw [h] at there
      dsimp only at there ⊢
      rw [s.setEntry_table]
      by_cases same : l = i
      · rw [if_pos same, word, if_neg fun h => ne (BitVec.eq_of_toNat_eq (by rw [there, place, h, same])), same]
      · rw [if_neg same]
    | _ => rfl

/-! ## The accepted writes -/

theorem State.tableWrite_slot (k : Fin 80) (place : addr.toNat = 80 * n.val + k.val) :
    s.tableWrite addr w =
      if (s.slot n).state = .owned then ((s.slot n).writeWord k w).map fun r => s.modifySlot n fun _ => r
      else none := by
  rw [State.tableWrite, tableWord_slot addr place]

theorem State.tableWrite_station {k : Fin 8} (place : addr.toNat = 0xA00 + 8 * a.val + k.val) :
    s.tableWrite addr w =
      if a = 0 then none else ((s.station a).writeWord k w).map fun e => s.modifyStation a fun _ => e := by
  rw [State.tableWrite, tableWord_station addr place]

theorem State.tableWrite_match {k : Fin 8} (place : addr.toNat = 0xB00 + 8 * i.val + k.val) :
    s.tableWrite addr w = (s.classifier.table[i].writeWord k w).map (s.setEntry i) := by
  rw [State.tableWrite, tableWord_match addr place]
  rfl

/-- What an accepted write of table space leaves. -/
structure WriteTaken (s t : State) (w placed : Word) : Prop where
  write    : s.tableWrite s.hostPort.windowAddress w = some t
  frame    : t = { s with
    slotTable := t.slotTable, stationTable := { s.stationTable with entries := t.stationTable.entries }
    classifier := { s.classifier with table := t.classifier.table } }
  counter  : t.slotTable.postCounter = s.slotTable.postCounter
  replaced : WordReplaced s t s.hostPort.windowAddress placed
  holdDue  : ∀ a, (t.station a).holdDue = (s.station a).holdDue

theorem writeTaken_slot {k : Fin 80} (owned : (s.slot n).state = .owned)
    (host : 1 ≤ k.val ∧ k.val ≤ 5 ∨ 16 ≤ k.val ∧ k.val ≤ 47)
    (place : s.hostPort.windowAddress.toNat = 80 * n.val + k.val) : ∃ t, WriteTaken s t w w := by
  obtain ⟨r, written, writes⟩ := (s.slot n).exists_writes w host
  refine ⟨s.modifySlot n fun _ => r, ?_, rfl, rfl, wordReplaced_modifySlot place writes.word, fun _ => rfl⟩
  rw [State.tableWrite_slot k place, if_pos owned, written]
  rfl

theorem writeTaken_station (station : a ≠ 0) (place : s.hostPort.windowAddress.toNat = 0xA00 + 8 * a.val + 1)
    (mode : fieldOf w 0 2 ≤ 2) (limit : 1 ≤ fieldOf w 8 4 ∧ fieldOf w 8 4 ≤ 8) :
    ∃ t, WriteTaken s t w (w &&& 0x0F03) := by
  obtain ⟨e, written, due, word⟩ := (s.station a).exists_writeWord mode limit
  refine ⟨s.modifyStation a fun _ => e, ?_, rfl, rfl, wordReplaced_modifyStation (k := 1) place station word,
    fun b => ?_⟩
  · rw [State.tableWrite_station (k := 1) place, if_neg station, written]
    rfl
  · rw [s.modifyStation_station]
    split_ifs with same
    · rw [due, same]
    · rfl

theorem writeTaken_match {k : Fin 8} (place : s.hostPort.windowAddress.toNat = 0xB00 + 8 * i.val + k.val)
    (h : ∃ e, s.classifier.table[i].writeWord k w = some e ∧
      ∀ j : Fin 8, e.word j = if j.val = k.val then placed else s.classifier.table[i].word j) :
    ∃ t, WriteTaken s t w placed := by
  obtain ⟨e, written, word⟩ := h
  refine ⟨s.setEntry i e, ?_, rfl, rfl, wordReplaced_setEntry place word, fun _ => rfl⟩
  rw [State.tableWrite_match place, written]
  rfl

theorem State.writeWindow_some (ready : Ready s) (h : s.tableWrite s.hostPort.windowAddress w = some t) :
    s.writeWindow w = t.stepWindow := by
  unfold State.writeWindow
  rw [if_neg (by simp [ready.2]), h]

/-- Settles O32: each of the five accepted writes is a `WriteTaken`, which the step of the window address leaves. -/
theorem windowWriteReplacesTheWord : Obligations.WindowWriteReplacesTheWord := by
  intro s w placed ready accepted
  have field (lo width : Nat) := fieldOf_eq w lo width
  obtain ⟨t, taken⟩ : ∃ t, WriteTaken s t w placed := by
    obtain ⟨n, k, owned, host, place, rfl⟩ | ⟨a, station, place, mode, low, high, rfl⟩ | ⟨i, place, path, action, rfl⟩ |
      ⟨i, place, filter, offset, rfl⟩ | ⟨i, place, rfl⟩ := accepted
    · exact writeTaken_slot (k := ⟨k, by omega⟩) owned host place
    · exact writeTaken_station station place (by simpa [field] using mode) (by simpa [field] using ⟨low, high⟩)
    · exact writeTaken_match (k := 0) place
        (MatchEntry.exists_writeWord_control _ (by simpa [field] using path) (by simpa [field] using action))
    · refine writeTaken_match (k := 1) place (MatchEntry.exists_writeWord_filter _ ?_ ?_) <;> simp [field] <;> omega
    · obtain place | place := place
      · exact writeTaken_match (k := 2) place (MatchEntry.exists_writeWord_plain _ _ (.inl rfl))
      · exact writeTaken_match (k := 3) place (MatchEntry.exists_writeWord_plain _ _ (.inr rfl))
  have port : t.hostPort = s.hostPort := by rw [taken.frame]
  refine ⟨t.stepWindow, congrArg Host.Outcome.next ((State.access_of_awake ready.1 _).trans
    (State.writeWindow_some ready taken.write)), ?_, taken.counter, taken.replaced.1, taken.replaced.2, taken.holdDue⟩
  exact congrArg State.stepWindow taken.frame

/-! ## The refused writes (R170) -/

theorem State.writeWindow_none (h : s.hostPort.sweep = true ∨ s.tableWrite s.hostPort.windowAddress w = none) :
    s.writeWindow w = s.refused.windowStepped := by
  have refused : (if s.hostPort.sweep then none else s.tableWrite s.hostPort.windowAddress w) = none := by
    rcases h with sweeping | none
    · exact if_pos sweeping
    · rw [none]; exact ite_self _
  unfold State.writeWindow
  rw [refused]
  rfl

theorem Station.writeWord_other (e : Station) (w : Word) {k : Fin 8} (h : k ≠ 1) : e.writeWord k w = none :=
  if_neg fun same => h (Fin.ext same)

theorem Station.writeWord_illegal (e : Station)
    (h : fieldOf w 0 2 = 3 ∨ fieldOf w 8 4 = 0 ∨ 8 < fieldOf w 8 4) : e.writeWord 1 w = none := by
  unfold Station.writeWord
  rw [if_pos (by rfl)]
  dsimp only
  split
  · next mode =>
    rcases h with three | limit
    · rw [three] at mode; cases mode
    · exact if_neg (by omega)
  · rfl

theorem MatchEntry.writeWord_control_illegal (e : MatchEntry) (h : fieldOf w 4 2 = 3 ∨ fieldOf w 8 2 = 3) :
    e.writeWord 0 w = none := by
  show (match PathTest.ofCode (fieldOf w 4 2), Action.ofCode (fieldOf w 8 2) with
    | some p, some a => _
    | _, _ => none) = _
  rcases h with path | action
  · rw [path]; rfl
  · rw [action]
    cases PathTest.ofCode (fieldOf w 4 2) <;> rfl

theorem MatchEntry.writeWord_filter_illegal (e : MatchEntry) (h : 31 < fieldOf w 0 8 ∨ 63 < fieldOf w 8 8) :
    e.writeWord 1 w = none := dif_neg (by omega)

theorem MatchEntry.writeWord_beyond (e : MatchEntry) (w : Word) {k : Fin 8} (h : 4 ≤ k) : e.writeWord k w = none := by
  unfold MatchEntry.writeWord
  have place : 4 ≤ k.val := h
  split
  case h_5 => rfl
  all_goals omega

/-- Settles O33: each of the nine cases makes `State.tableWrite` answer none, but the first, in which the sweep runs. -/
theorem windowWriteRefusals : Obligations.WindowWriteRefusals := by
  intro s w awake refused
  have field (lo width : Nat) := fieldOf_eq w lo width
  refine congrArg Host.Outcome.next ((State.access_of_awake awake _).trans (State.writeWindow_none ?_))
  obtain sweeping | gap | ⟨n, k, host, place, other⟩ | ⟨n, k, own, place⟩ | ⟨a, k, bad, place⟩ | ⟨a, place, bad⟩ |
    ⟨i, place, bad⟩ | ⟨i, place, bad⟩ | ⟨i, k, beyond, place⟩ | event := refused
  · exact .inl sweeping
  all_goals refine .inr ?_
  · rw [State.tableWrite, tableWord_empty _ (.inl gap)]
  · rw [State.tableWrite_slot ⟨k, by omega⟩ place, if_neg other]
  · rw [State.tableWrite_slot ⟨k, by omega⟩ place, Slot.writeWord_eq_none _ _ (by dsimp only; omega)]
    exact ite_self none
  · rw [State.tableWrite_station place]
    by_cases zero : a = 0
    · exact if_pos zero
    · rw [if_neg zero, Station.writeWord_other _ _ (bad.resolve_left zero)]
      rfl
  · rw [State.tableWrite_station (k := 1) place, Station.writeWord_illegal _ (by simpa [field] using bad)]
    exact ite_self none
  · rw [State.tableWrite_match (k := 0) place, MatchEntry.writeWord_control_illegal _ (by simpa [field] using bad)]
    rfl
  · rw [State.tableWrite_match (k := 1) place, MatchEntry.writeWord_filter_illegal]
    · rfl
    · simp [field]; omega
  · rw [State.tableWrite_match place, MatchEntry.writeWord_beyond _ _ beyond]
    rfl
  · have there := tableWord_address s.hostPort.windowAddress
    unfold State.tableWrite
    cases e : tableWord s.hostPort.windowAddress with
    | eventWord => rfl
    | emptyWord => rfl
    | slotWord n k => rw [e] at there; dsimp only at there; omega
    | stationWord a k => rw [e] at there; dsimp only at there; omega
    | matchWord i k => rw [e] at there; dsimp only at there; omega

end Sys2Proof.Machine
end

-- ==== The timers (R87, R96, R148, R156) ====
section
/-! SUPPORT. What the expiries do where something is due and where nothing is, the millisecond step, and the obligations about
both. -/

namespace Sys2Proof.Machine

variable {s : State} {n : SlotNo} {a : Address}

theorem Slot.deadlineDue_iff (r : Slot) :
    r.deadlineDue = true ↔ r.state = .waiting ∧ r.deadline ≠ 0 ∧ r.deadlineRemaining = 0 := by
  simp [Slot.deadlineDue, and_assoc]

/-! ## Where nothing is due -/

theorem State.expireDeadlines_of_none_due (h : ∀ n, (s.slot n).deadlineDue = false) : s.expireDeadlines = s := by
  have none : s.expiredSlots = [] := List.filter_eq_nil_iff.2 fun n _ => by simp [h n]
  unfold State.expireDeadlines
  rw [none]
  simp [State.onCancelList]

theorem State.expireHolds_of_none_due (h : ∀ a, (s.station a).holdDue = false) : s.expireHolds = s := by
  have entries : s.expireHolds.stationTable.entries = s.stationTable.entries := StationTable.entries_eq fun a => by
    rw [s.expireHolds_station]
    exact if_neg (by simp [h a])
  have table : s.stationTable.mapEntries Station.expireHold = s.stationTable := by
    unfold StationTable.mapEntries
    exact congrArg (fun v : Vector Station 32 => { s.stationTable with entries := v }) entries
  unfold State.expireHolds State.onStations
  rw [table]

theorem CompletionUnit.expire_of_not_due {u : CompletionUnit} (h : u.timer ≠ some 0) : u.expire = u := if_neg h

/-- With nothing due the expiries change nothing. -/
theorem State.expireAll_of_none_due (slots : ∀ n, (s.slot n).deadlineDue = false)
    (holds : ∀ a, (s.station a).holdDue = false) (timer : s.completionUnit.timer ≠ some 0) : s.expireAll = s := by
  unfold State.expireAll
  rw [State.expireDeadlines_of_none_due slots, State.expireHolds_of_none_due holds, State.onCompletion,
    CompletionUnit.expire_of_not_due timer]

/-! ## After the expiries nothing is due -/

theorem State.expireHolds_slot (s : State) (n : SlotNo) : s.expireHolds.slot n = s.slot n := s.onStations_slot _ n

theorem State.expireAll_slot (s : State) (n : SlotNo) : s.expireAll.slot n = s.expireDeadlines.slot n := by
  unfold State.expireAll
  rw [State.onCompletion_slot, State.expireHolds_slot]

theorem State.expireDeadlines_station (s : State) (a : Address) : s.expireDeadlines.station a = s.station a := by
  unfold State.station
  rw [s.expireDeadlines_frame]

theorem State.expireAll_station (s : State) (a : Address) : s.expireAll.station a = (s.station a).expireHold := by
  unfold State.expireAll
  rw [State.onCompletion_station, State.expireHolds_station, State.expireDeadlines_station]

theorem State.expireAll_deadlineDue (s : State) (n : SlotNo) : (s.expireAll.slot n).deadlineDue = false := by
  rw [s.expireAll_slot, s.expireDeadlines_slot]
  split
  · simp [Slot.deadlineDue, Slot.expired]
  · next h => simpa using h

theorem State.expireAll_holdDue (s : State) (a : Address) : (s.expireAll.station a).holdDue = false := by
  rw [s.expireAll_station]
  unfold Station.expireHold
  split
  · rfl
  · next h => simpa using h

theorem State.expireAll_timer (s : State) : s.expireAll.completionUnit.timer ≠ some 0 := by
  unfold State.expireAll
  rw [State.onCompletion_completionUnit, CompletionUnit.expire_eq]
  split
  · simp
  · next h => exact h

theorem State.expireAll_pins (s : State) : s.expireAll.pins = s.pins := by
  unfold State.expireAll State.expireHolds
  rw [State.onCompletion_pins, State.onStations_pins, s.expireDeadlines_frame]

/-- The expiries taken twice are the expiries taken once. -/
theorem State.expireAll_expireAll (s : State) : s.expireAll.expireAll = s.expireAll :=
  State.expireAll_of_none_due s.expireAll_deadlineDue s.expireAll_holdDue s.expireAll_timer

/-! ## The step -/

theorem State.stepClock_of_awake (awake : s.pins.reset = false) : s.stepClock = s.expireAll.countDown :=
  if_neg (by simp [awake])

theorem State.countDown_postCounter (s : State) : s.countDown.slotTable.postCounter = s.slotTable.postCounter := by
  simp only [State.countDown, State.onCompletion_slotTable, State.onStations_slotTable, State.onSlots_slotTable,
    State.onEngine_slotTable]

theorem Slot.countDown_eq (r : Slot) :
    r.countDown =
      { r with
        deadlineRemaining :=
          if r.state = .waiting ∧ r.deadlineRemaining ≠ 0 then r.deadlineRemaining - 1 else r.deadlineRemaining } := by
  unfold Slot.countDown
  by_cases h : r.state = .waiting ∧ r.deadlineRemaining ≠ 0
  · rw [if_pos h, if_pos (by simpa using h)]
  · rw [if_neg h, if_neg (by simpa using h)]

theorem Station.countDown_eq (e : Station) :
    e.countDown =
      if e.holdRemaining = 1 then { e with holdDue := true }
      else { e with holdRemaining := e.holdRemaining - 1 } := by
  unfold Station.countDown
  split
  · next zero => rw [if_neg (by omega), zero, Nat.zero_sub, ← zero]
  · rfl

/-- Settles O34: an expiry still waiting is `expireAll`, which changes nothing where nothing is due and nothing more where
it has been taken. -/
theorem clockStepCountsDown : Obligations.ClockStepCountsDown := by
  intro s awake
  refine ⟨fun slots holds timer => ?_, fun s1 s2 s3 h1 h2 h3 => ?_⟩
  · have due (n : SlotNo) : (s.slot n).deadlineDue = false :=
      Bool.eq_false_iff.2 fun h => slots n ((Slot.deadlineDue_iff _).1 h)
    have stepped : s.stepClock = s.countDown := by
      rw [State.stepClock_of_awake awake, State.expireAll_of_none_due due holds timer]
    refine ⟨s.countDown, congrArg Host.Outcome.next stepped, s.countDown_frame, s.countDown_postCounter,
      fun n => ?_, fun a => ?_⟩
    · rw [s.countDown_slot, Slot.countDown_eq]
    · rw [s.countDown_station, Station.countDown_eq]
  · have taken : s.expireAll = s3 := by
      cases h1
      cases h2
      cases h3
      rfl
    have awake3 : s3.pins.reset = false := by rw [← taken, s.expireAll_pins]; exact awake
    refine congrArg Host.Outcome.next ?_
    rw [State.stepClock_of_awake awake, State.stepClock_of_awake awake3, ← taken, s.expireAll_expireAll]

/-- Settles O35. -/
theorem expiriesAreTaken : Obligations.ExpiriesAreTaken := by
  intro s
  refine ⟨⟨s.expireDeadlines, rfl, ?_, ?_, fun n => ?_⟩, ⟨s.expireHolds, rfl, ?_, fun a => s.expireHolds_station a⟩,
    fun zero => ?_, fun running => ?_⟩
  · have due : s.expiredSlots = (List.finRange 32).filter fun n =>
        (s.slot n).state = .waiting ∧ (s.slot n).deadline ≠ 0 ∧ (s.slot n).deadlineRemaining = 0 :=
      List.filter_congr fun n _ => by rw [← Bool.coe_iff_coe, Slot.deadlineDue_iff, decide_eq_true_eq]
    rw [← due]
    refine s.expireDeadlines_frame.trans ?_
    rw [s.expireDeadlines_frame]
  · rw [s.expireDeadlines_frame]
  · rw [s.expireDeadlines_slot]
    exact if_congr (Slot.deadlineDue_iff _) rfl rfl
  · unfold State.expireHolds State.onStations StationTable.mapEntries
    rfl
  · refine congrArg Host.Outcome.next ?_
    rw [State.onCompletion, CompletionUnit.expire_eq, if_pos zero]
    rfl
  · refine congrArg Host.Outcome.next ?_
    rw [State.onCompletion, CompletionUnit.expire_of_not_due running]

end Sys2Proof.Machine
end

-- ==== The line and the stages of an exchange (01, 08) ====
section
/-! SUPPORT. The settle and LFAULT, the stages of an exchange on the line with DE and TXD, and the echo fault (R4, R9, R10,
R14, R22, R139, R140, R143, R145, R146). -/

namespace Sys2Proof.Machine

variable {s : State} {x : Exchange} {o : ExchangeOutcome}

/-! ## The settle (R139, R140) -/

/-- Settles O36. -/
theorem settleEndsInRunningOrFault : Obligations.SettleEndsInRunningOrFault := by
  intro s
  refine ⟨fun starting => ?_, fun starting line => ?_, fun other => ⟨?_, ?_⟩⟩
  · exact congrArg Host.Outcome.next (if_pos starting)
  · have idle : (s.recordError .echo 0).lineScheduler.exchange = none := line.idle (by simp [starting])
    have contends : s.contend = (s.recordError .echo 0).enterFault := if_pos starting
    exact congrArg Host.Outcome.next (contends.trans (State.enterFault_of_none _ idle))
  · exact congrArg Host.Outcome.next (if_neg other)
  · exact congrArg Host.Outcome.next (if_neg other)

/-! ## The abort by FAULT (R143) -/

/-- What an outcome does depends neither on the phase of its exchange nor on what stands in flight. -/
theorem State.settle_congr (s : State) (x : Exchange) (o : ExchangeOutcome) (p : Phase) (e : Option Exchange) :
    State.settle { s with lineScheduler := { s.lineScheduler with exchange := e } } { x with phase := p } o =
      s.settle x o := rfl

/-- The abort by FAULT is the taking of the abort's outcome, decided, in FAULT. -/
theorem State.enterFault_eq_takeOutcome (flight : s.lineScheduler.exchange = some x) :
    s.enterFault =
      State.takeOutcome
        { s.decidedAs x x.phase.abortOutcome with
          lineEngine := { s.lineEngine with state := .fault }, completionUnit := s.completionUnit.lineLatched } := by
  rw [s.enterFault_of_some flight, State.takeOutcome_decided _ ⟨rfl, rfl⟩, if_neg (by simp)]
  exact (State.settle_congr
    { s with lineEngine := { s.lineEngine with state := .fault }, completionUnit := s.completionUnit.lineLatched }
    x x.phase.abortOutcome (.decided x.phase.abortOutcome) _).symm

theorem Phase.abortOutcome_eq {p : Phase}
    (h : p = .decided o ∨ (p = .windowOpen ∨ p = .receiving) ∧ o = .noAnswer ∨ p = .sending ∧ o = .echoFault) :
    p.abortOutcome = o := by
  obtain rfl | ⟨rfl | rfl, rfl⟩ | ⟨rfl, rfl⟩ := h <;> rfl

/-- Settles O37. -/
theorem lfaultMovesTheLineToFault : Obligations.LfaultMovesTheLineToFault := by
  intro s
  refine ⟨rfl, fun still => ?_, fun looks => ?_⟩
  · refine congrArg Host.Outcome.next (if_neg ?_)
    obtain e | e := still <;> simp [e, LineState.looksAtLfault]
  · have fault : s.setLfault true = (s.onPins fun p => { p with lfault := true }).enterFault := by
      refine if_pos ?_
      obtain e | e | e := looks <;> simp [e, LineState.looksAtLfault]
    refine ⟨fun idle => ?_, fun x o flight phase => ?_⟩
    · exact congrArg Host.Outcome.next (fault.trans (State.enterFault_of_none _ idle))
    · have aborted := State.enterFault_eq_takeOutcome (s := s.onPins fun p => { p with lfault := true }) flight
      rw [Phase.abortOutcome_eq phase] at aborted
      exact congrArg Host.Outcome.next (fault.trans aborted)

/-! ## The stages of an exchange (R4, R9, R10) -/

theorem State.phase_eq (flight : s.lineScheduler.exchange = some x) : s.phase = some x.phase := by
  simp [State.phase, flight]

theorem State.setPhase_eq (flight : s.lineScheduler.exchange = some x) (p : Phase) :
    s.setPhase p =
      { s with lineScheduler := { s.lineScheduler with exchange := some { x with phase := p } } } := by
  simp [State.setPhase, State.onScheduler, flight]

theorem State.echoMismatch_of_not_sending (flight : s.lineScheduler.exchange = some x) (phase : x.phase ≠ .sending)
    (bit : Nat) : s.echoMismatch bit = s := by
  simp [State.echoMismatch, flight, phase]

theorem State.takeAnswer_of_not_awaiting (flight : s.lineScheduler.exchange = some x)
    (phase : x.phase ≠ .windowOpen ∧ x.phase ≠ .receiving) (run : List RxOctet) : s.takeAnswer run = s := by
  have deaf : x.phase.awaitsAnswer = false := by
    cases p : x.phase <;> simp_all [Phase.awaitsAnswer]
  simp [State.takeAnswer, flight, deaf]

/-- With no exchange in flight nothing of an exchange can come; the turnaround gap alone passes. -/
theorem stages_of_none (idle : s.lineScheduler.exchange = none) :
    exec .turnaroundGapEnd s = .next { s with lineEngine := { s.lineEngine with gapPassed := true } } ∧
    exec .frameCompletelySent s = .next s ∧ exec .answerWindowClose s = .next s ∧
    ∀ bit run, exec (.answerBegins bit) s = .next s ∧ exec (.echoFault bit) s = .next s ∧
      exec (.answer run) s = .next s := by
  have none : s.phase = none := by simp [State.phase, idle]
  refine ⟨congrArg Host.Outcome.next ?_, congrArg Host.Outcome.next (if_neg (by simp [none])),
    congrArg Host.Outcome.next (if_neg (by simp [none])), fun bit run =>
    ⟨congrArg Host.Outcome.next (if_neg (by simp [none])), congrArg Host.Outcome.next ?_,
      congrArg Host.Outcome.next ?_⟩⟩
  · simp [State.passGap, none, State.setGap, State.onEngine]
  · simp [State.echoMismatch, idle]
  · simp [State.takeAnswer, idle]

/-- The stages of the exchange in flight, each by its phase. -/
theorem stages_of_some (flight : s.lineScheduler.exchange = some x) :
    (x.phase = .sending →
      exec .frameCompletelySent s = .next
        { s with
          lineScheduler := { s.lineScheduler with exchange := some { x with phase := .windowOpen } }
          lineEngine := { s.lineEngine with echoCount := 0, gapPassed := false } }) ∧
    (x.phase = .windowOpen → ∀ bit, 1 ≤ bit → bit ≤ s.lineEngine.answerWindow →
      exec (.answerBegins bit) s = .next
        { s with lineScheduler := { s.lineScheduler with exchange := some { x with phase := .receiving } } }) ∧
    (∀ bit, bit = 0 ∨ s.lineEngine.answerWindow < bit → exec (.answerBegins bit) s = .next s) ∧
    (x.phase = .windowOpen →
      exec .answerWindowClose s = .next
        { s.decidedAs x .noAnswer with lineEngine := { s.lineEngine with gapPassed := true } }) ∧
    (x.phase = .windowOpen ∨ (∃ o, x.phase = .decided o) →
      exec .turnaroundGapEnd s = .next { s with lineEngine := { s.lineEngine with gapPassed := true } }) ∧
    (x.phase = .sending ∨ x.phase = .receiving → exec .turnaroundGapEnd s = .next s) ∧
    (x.phase ≠ .sending → exec .frameCompletelySent s = .next s ∧ ∀ bit, exec (.echoFault bit) s = .next s) ∧
    (x.phase ≠ .windowOpen →
      exec .answerWindowClose s = .next s ∧ ∀ bit, exec (.answerBegins bit) s = .next s) ∧
    (x.phase ≠ .windowOpen ∧ x.phase ≠ .receiving → ∀ run, exec (.answer run) s = .next s) := by
  have phase := State.phase_eq flight
  have moved := State.setPhase_eq flight
  refine ⟨fun sending => ?_, fun opened bit low high => ?_, fun bit outside => ?_, fun opened => ?_, fun counts => ?_,
    fun uncounted => ?_, fun other => ⟨?_, fun bit => ?_⟩, fun other => ⟨?_, fun bit => ?_⟩, fun other run => ?_⟩
  · refine congrArg Host.Outcome.next ((if_pos (by rw [phase, sending])).trans ?_)
    rw [moved]
    rfl
  · exact congrArg Host.Outcome.next ((if_pos ⟨by rw [phase, opened], low, high⟩).trans (moved _))
  · exact congrArg Host.Outcome.next (if_neg (by omega))
  · refine congrArg Host.Outcome.next ((if_pos (by rw [phase, opened])).trans ?_)
    rw [moved]
    rfl
  · refine congrArg Host.Outcome.next ?_
    obtain p | ⟨o, p⟩ := counts <;> simp [State.passGap, phase, p, State.setGap, State.onEngine]
  · refine congrArg Host.Outcome.next ?_
    obtain p | p := uncounted <;> simp [State.passGap, phase, p]
  · exact congrArg Host.Outcome.next (if_neg (by simpa [phase] using other))
  · exact congrArg Host.Outcome.next (State.echoMismatch_of_not_sending flight other bit)
  · exact congrArg Host.Outcome.next (if_neg (by simpa [phase] using other))
  · exact congrArg Host.Outcome.next (if_neg fun h => other (by simpa [phase] using h.1))
  · exact congrArg Host.Outcome.next (State.takeAnswer_of_not_awaiting flight other run)

/-! ## DE and TXD (R1, R22) -/

theorem State.frameOut_sending (flight : s.lineScheduler.exchange = some x) (sending : x.phase = .sending) :
    s.frameOut = some x.frame := by
  simp [State.frameOut, flight, sending]

theorem State.frameOut_none (h : ∀ x, s.lineScheduler.exchange = some x → x.phase ≠ .sending) : s.frameOut = none := by
  unfold State.frameOut
  split
  · next x flight => exact if_neg (h x flight)
  · rfl

theorem State.de_of_live (live : s.lineEngine.state = .running ∨ s.lineEngine.state = .stopping) :
    s.de = s.frameOut.isSome := by
  obtain e | e := live <;> simp [State.de, e]

theorem State.txd_of_live (live : s.lineEngine.state = .running ∨ s.lineEngine.state = .stopping) (i : Nat) :
    s.txd i = (frameBits (s.frameOut.getD [])).getD i true := by
  obtain e | e := live <;> simp [State.txd, e]

/-- The ten bits of each octet of the frame going out. -/
theorem txd_octet (live : s.lineEngine.state = .running ∨ s.lineEngine.state = .stopping)
    (out : s.frameOut = some x.frame) (k : Fin x.frame.length) :
    s.txd (10 * k.val) = false ∧ (∀ j : Fin 8, s.txd (10 * k.val + 1 + j.val) = x.frame[k].getLsbD j.val) ∧
      s.txd (10 * k.val + 9) = true := by
  have bit (i : Fin 10) : s.txd (10 * k.val + i.val) = (octetBits x.frame[k]).getD i.val true := by
    rw [State.txd_of_live live, out]
    exact frameBits_getD x.frame k i
  refine ⟨bit 0, fun j => ?_, bit 9⟩
  rw [Nat.add_assoc]
  exact (bit ⟨1 + j.val, by omega⟩).trans (octetBits_data _ j)

/-- Settles O38. -/
theorem stagesOfAnExchange : Obligations.StagesOfAnExchange := by
  intro s
  refine ⟨fun _ => rfl, stages_of_none, fun x => stages_of_some, fun still => ?_, fun starting => ?_,
    fun live => ⟨fun x flight sending => ?_, fun silent => ?_⟩⟩
  · obtain e | e := still <;> simp [State.de, State.txd, e]
  · simp [State.de, State.txd, starting]
  · have out := State.frameOut_sending flight sending
    refine ⟨by rw [State.de_of_live live, out]; rfl, txd_octet live out, fun i beyond => ?_⟩
    rw [State.txd_of_live live, out]
    exact frameBits_beyond beyond
  · have out := State.frameOut_none silent
    refine ⟨by rw [State.de_of_live live, out]; rfl, fun i => ?_⟩
    rw [State.txd_of_live live, out]
    rfl

/-! ## The echo fault (R14, R146) -/

/-- The state in which a frame has been abandoned, before the move to FAULT that a third echo fault brings. -/
def State.abandonFrame (s : State) (x : Exchange) : State :=
  { s.decidedAs x .echoFault with
    lineEngine :=
      { s.lineEngine with
        echoCount := s.lineEngine.echoCount + 1, gapPassed := false
        error := { kind := .echo, station := x.station, time := s.lineEngine.clock } }
    completionUnit := s.completionUnit.lineErrorLatched }

theorem State.echoMismatch_eq (flight : s.lineScheduler.exchange = some x) (sending : x.phase = .sending) {bit : Nat}
    (within : bit < 10 * x.frame.length) :
    s.echoMismatch bit =
      if 3 ≤ s.lineEngine.echoCount + 1 then (s.abandonFrame x).enterFault else s.abandonFrame x := by
  unfold State.echoMismatch
  rw [flight]
  dsimp only
  rw [if_pos (by simpa [sending] using within), State.setPhase_eq flight]
  rfl

/-- Settles O39. -/
theorem echoFaultAbandonsTheFrame : Obligations.EchoFaultAbandonsTheFrame := by
  intro s x bit flight sending
  refine ⟨fun beyond => ?_, fun within fewer => ?_, fun within third => ?_⟩
  · refine congrArg Host.Outcome.next ?_
    unfold State.echoMismatch
    rw [flight]
    exact if_neg (by simpa [sending] using beyond)
  · exact congrArg Host.Outcome.next ((State.echoMismatch_eq flight sending within).trans (if_neg (by omega)))
  · refine congrArg Host.Outcome.next ((State.echoMismatch_eq flight sending within).trans ?_)
    rw [if_pos (by omega), State.enterFault_eq_takeOutcome (s := s.abandonFrame x) rfl]
    unfold State.abandonFrame
    rw [third]
    rfl

end Sys2Proof.Machine
end

-- ==== The check (R8) ====
section
/-! SUPPORT. The check is linear and injective bit by bit, so that it comes to zero over two further octets exactly when they
are the check's own. -/

namespace Sys2Proof.Machine

/-! ## One bit, and many -/

theorem checkBit_xor (a b : Word) : checkBit (a ^^^ b) = checkBit a ^^^ checkBit b := by
  unfold checkBit
  rw [BitVec.msb_xor, BitVec.shiftLeft_xor_distrib]
  cases a.msb <;> cases b.msb
  · rfl
  · exact BitVec.xor_assoc _ _ _
  · simp only [Bool.bne_false, if_true, Bool.false_eq_true, if_false]
    rw [BitVec.xor_assoc, BitVec.xor_comm (b <<< 1), ← BitVec.xor_assoc]
  · simp only [bne_self_eq_false, if_true, Bool.false_eq_true, if_false]
    rw [BitVec.xor_assoc, BitVec.xor_comm (b <<< 1) 0x1021, ← BitVec.xor_assoc 0x1021, BitVec.xor_self,
      BitVec.zero_xor]

/-- A shifted word has bit 0 clear, and the generator has it set. -/
theorem checkBit_eq_zero {c : Word} (h : checkBit c = 0) : c = 0 := by
  unfold checkBit at h
  cases top : c.msb with
  | true =>
    rw [top, if_pos rfl] at h
    have low := congrArg (BitVec.getLsbD · 0) h
    simp at low
  | false =>
    rw [top, if_neg Bool.false_ne_true] at h
    refine word_ext fun i hi => ?_
    have bit := congrArg (BitVec.getLsbD · (i + 1)) h
    rcases Nat.lt_or_ge i 15 with inside | _
    · simpa [show i + 1 < 16 by omega, BitVec.getLsbD_eq_getElem hi] using bit
    · obtain rfl : i = 15 := by omega
      simpa [BitVec.msb_eq_getLsbD_last] using top

theorem checkBits_xor (n : Nat) (a b : Word) : checkBits n (a ^^^ b) = checkBits n a ^^^ checkBits n b := by
  induction n generalizing a b with
  | zero => rfl
  | succ n ih => rw [checkBits, checkBit_xor, ih]; rfl

theorem checkBits_eq_zero {n : Nat} {c : Word} (h : checkBits n c = 0) : c = 0 := by
  induction n generalizing c with
  | zero => exact h
  | succ n ih => exact checkBit_eq_zero (ih h)

theorem checkBits_zero (n : Nat) : checkBits n 0 = 0 := by
  induction n with
  | zero => rfl
  | succ n ih => exact ih

theorem checkBits_eq_zero_iff {n : Nat} {c : Word} : checkBits n c = 0 ↔ c = 0 :=
  ⟨checkBits_eq_zero, fun h => h ▸ checkBits_zero n⟩

/-! ## Two octets -/

/-- Eight bits of an octet in the low half only shift it up. -/
theorem checkBits_low (l : Octet) : checkBits 8 (0#8 ++ l) = l ++ 0#8 := by revert l; decide

theorem append_xor_halves (h l : Octet) : (h ++ 0#8) ^^^ (0#8 ++ l) = h ++ l := by
  refine word_ext fun i hi => ?_
  simp only [BitVec.getLsbD_xor, BitVec.getLsbD_append, BitVec.getLsbD_zero]
  split <;> simp

/-- Two octets enter the check as one word of sixteen bits. -/
theorem checkOctet_checkOctet (c : Word) (h l : Octet) :
    checkOctet (checkOctet c h) l = checkBits 8 (checkBits 8 (c ^^^ (h ++ l))) := by
  show checkBits 8 (checkBits 8 (c ^^^ (h ++ 0#8)) ^^^ (l ++ 0#8)) = _
  rw [← checkBits_low l, ← checkBits_xor, BitVec.xor_assoc, append_xor_halves]

theorem check_append (octets : List Octet) (h l : Octet) :
    check (octets ++ [h, l]) = 0 ↔ h ++ l = check octets := by
  unfold check
  rw [List.foldl_append]
  show checkOctet (checkOctet (List.foldl checkOctet 0xFFFF octets) h) l = 0 ↔ _
  rw [checkOctet_checkOctet, checkBits_eq_zero_iff, checkBits_eq_zero_iff, eq_comm (a := h ++ l)]
  exact BitVec.xor_eq_zero_iff

/-- Settles O53. -/
theorem theCheckOfACheckedFrameIsZero : Obligations.TheCheckOfACheckedFrameIsZero :=
  ⟨rfl, by decide +kernel, check_append⟩

end Sys2Proof.Machine
end

-- ==== Frames received (R2, R3, R5, R7, R8) ====
section
/-! SUPPORT. The receiver makes a frame of a run exactly when the run begins with that frame, and the fields of a received
frame are those of its parts. -/

namespace Sys2Proof.Machine

variable {os : List Octet} {f : AnswerFrame}

/-! ## What the receiver calls a frame -/

/-- The octets of a whole frame: a good header, and the length that the kind and length octets fix (R3). -/
structure WholeFrame (os : List Octet) : Prop where
  sync   : os.getD 0 0 = Config.sync
  short  : (os.getD 4 0).toNat ≤ Config.maxPayload
  extent : os.length = frameExtent os

theorem WholeFrame.five_le (h : WholeFrame os) : 5 ≤ os.length := by
  rw [h.extent, frameExtent]
  omega

theorem badHeader_eq_false {taken : List Octet} (sync : taken.getD 0 0 = Config.sync)
    (short : 5 ≤ taken.length → (taken.getD 4 0).toNat ≤ Config.maxPayload) : badHeader taken = false := by
  unfold badHeader
  rw [Bool.or_eq_false_iff, Bool.and_eq_false_iff]
  refine ⟨decide_eq_false (not_not.2 sync), ?_⟩
  by_cases long : 5 ≤ taken.length
  · exact .inr (by simpa using short long)
  · exact .inl (by simpa using long)

/-- The octets that the receiver has taken of a whole frame agree with it. -/
theorem getD_of_append {taken rest : List Octet} (h : taken ++ rest = os) {i : Nat} (hi : i < taken.length) :
    taken.getD i 0 = os.getD i 0 := by
  rw [← h, List.getD_append _ _ _ _ hi]

/-- A run that begins with a whole frame is that frame. -/
theorem receiveFrom_front (whole : WholeFrame os) (rest : List RxOctet) (front : List RxOctet) (taken : List Octet)
    (some : front ≠ []) (octets : taken ++ front.map RxOctet.data = os) (marks : ∀ o ∈ front, o.stopMark = true)
    (tail : ∀ o ∈ front.tail, o.gap ≤ 20) (head : taken ≠ [] → ∀ o ∈ front, o.gap ≤ 20) :
    receiveFrom taken false (front ++ rest) = .frame os := by
  induction front generalizing taken with
  | nil => exact absurd rfl some
  | cons o front ih =>
    have whole' : (taken ++ [o.data]) ++ front.map RxOctet.data = os := by simpa using octets
    have close : (!taken.isEmpty && decide (Config.maxGap < o.gap)) = false := by
      cases taken with
      | nil => rfl
      | cons => exact decide_eq_false (Nat.not_lt.2 (head (by simp) o (by simp)))
    have size : 0 < (taken ++ [o.data]).length := by simp
    have good : badHeader (taken ++ [o.data]) = false :=
      badHeader_eq_false ((getD_of_append whole' size).trans whole.sync) fun long => by
        rw [getD_of_append whole' long]
        exact whole.short
    rw [List.cons_append, receiveFrom, if_neg (by simp [close])]
    dsimp only
    rw [good, marks o (by simp), if_neg (by simp)]
    cases front with
    | nil =>
      have all : taken ++ [o.data] = os := by simpa using whole'
      rw [all, if_pos]
      simpa using ⟨whole.five_le, whole.extent⟩
    | cons o' front =>
      have length := congrArg List.length whole'
      simp only [List.length_append, List.length_map, List.length_cons] at length
      rw [if_neg]
      · refine ih (taken ++ [o.data]) (by simp) whole' (fun p hp => marks p (by simp [hp])) (fun p hp => ?_) fun _ p hp => ?_
        · exact tail p (List.mem_of_mem_tail hp)
        · exact tail p hp
      · intro reached
        simp only [Bool.and_eq_true, decide_eq_true_eq] at reached
        obtain ⟨long, extent⟩ := reached
        have kind := getD_of_append whole' (show 1 < _ by omega)
        have count := getD_of_append whole' (show 4 < _ by omega)
        have same : frameExtent (taken ++ [o.data]) = frameExtent os := by rw [frameExtent, kind, count, frameExtent]
        rw [same, ← whole.extent] at extent
        simp only [List.length_append, List.length_cons, List.length_nil] at extent
        omega

/-- A malformed run never becomes a frame. -/
theorem receiveFrom_bad (taken : List Octet) (run : List RxOctet) : receiveFrom taken true run ≠ .frame os := by
  induction run generalizing taken with
  | nil => simp [receiveFrom]
  | cons o run ih =>
    unfold receiveFrom
    split
    · simp
    · simp only [Bool.true_or, if_true]
      split
      · simp
      · exact ih _

/-- A run of which the receiver makes a frame begins with that frame, whole. -/
theorem receiveFrom_eq_frame (run : List RxOctet) (taken : List Octet) (h : receiveFrom taken false run = .frame os) :
    WholeFrame os ∧ ∃ front rest, run = front ++ rest ∧ taken ++ front.map RxOctet.data = os ∧
      (∀ o ∈ front, o.stopMark = true) ∧ (∀ o ∈ front.tail, o.gap ≤ 20) ∧ (taken ≠ [] → ∀ o ∈ front, o.gap ≤ 20) := by
  induction run generalizing taken with
  | nil => simp [receiveFrom] at h
  | cons o run ih =>
    unfold receiveFrom at h
    split at h
    · simp at h
    · next close =>
      have near : taken ≠ [] → o.gap ≤ 20 := fun some => by
        have taking : taken.isEmpty = false := by simp [some]
        rw [taking] at close
        exact Nat.not_lt.1 fun far => close (decide_eq_true far)
      dsimp only at h
      split at h
      · next bad =>
        split at h
        · cases h
        · rw [bad] at h
          exact absurd h (receiveFrom_bad _ run)
      · next good =>
        have mark : o.stopMark = true ∧ badHeader (taken ++ [o.data]) = false := by simpa using good
        split at h
        · next reached =>
          cases h
          simp only [Bool.and_eq_true, decide_eq_true_eq] at reached
          obtain ⟨long, extent⟩ := reached
          have header := mark.2
          unfold badHeader at header
          rw [Bool.or_eq_false_iff, Bool.and_eq_false_iff] at header
          obtain ⟨sync, short⟩ := header
          refine ⟨⟨by simpa using sync, ?_, extent⟩, [o], run, rfl, rfl, by simp [mark.1], by simp, fun some p hp => ?_⟩
          · simpa using short.resolve_left (by simpa using long)
          · obtain rfl : p = o := by simpa using hp
            exact near some
        · have clean : (false || !o.stopMark || badHeader (taken ++ [o.data])) = false := by simp [mark]
          rw [clean] at h
          obtain ⟨whole, front, rest, split, octets, marks, -, gaps⟩ := ih _ h
          refine ⟨whole, o :: front, rest, by rw [split]; rfl, by simpa using octets, ?_, gaps (by simp), ?_⟩
          · simpa [mark.1] using marks
          · exact fun some => by simpa [near some] using gaps (by simp)

/-! ## The octets of an answer (R5, 11.5) -/

theorem kindCode_eq (k : Octet) : (k.extractLsb' 0 4).toNat = kindCode k := by
  rw [BitVec.extractLsb'_toNat]
  rfl

theorem extraOctets_eq (k : Octet) : extraOctets k = extraCount k := by
  unfold extraOctets extraCount
  rw [kindCode_eq]
  split
  · next e => rw [if_pos (.inl e)]
  · next e => rw [if_pos (.inr e)]
  · next e =>
    rw [if_neg (show ¬ (kindCode k = 9 ∨ kindCode k = 10) by omega)]
    exact if_congr (and_iff_right e).symm rfl rfl
  · next h9 h10 h11 => rw [if_neg (fun h => h.elim h9 h10), if_neg fun h => h11 h.1]

theorem AnswerFrame.octets_eq (f : AnswerFrame) :
    f.octets =
      0xA5 :: f.kind :: f.address :: f.tag :: BitVec.ofNat 8 f.payload.length ::
        (f.extra ++ f.payload ++ checkOctets (check f.covered)) := by
  simp [AnswerFrame.octets, AnswerFrame.covered]

theorem AnswerFrame.wholeFrame (sized : f.Sized) : WholeFrame f.octets := by
  obtain ⟨extra, short⟩ := sized
  have count : (BitVec.ofNat 8 f.payload.length).toNat = f.payload.length := by
    rw [BitVec.toNat_ofNat]
    exact Nat.mod_eq_of_lt (by omega)
  rw [f.octets_eq]
  refine ⟨rfl, ?_, ?_⟩
  · show (BitVec.ofNat 8 f.payload.length).toNat ≤ 64
    rw [count]
    exact short
  · show _ = 7 + extraOctets f.kind + (BitVec.ofNat 8 f.payload.length).toNat
    rw [count, extraOctets_eq, ← extra]
    simp [checkOctets]
    omega

theorem append_extractLsb' (c : Word) : c.extractLsb' 8 8 ++ c.extractLsb' 0 8 = c := by
  refine word_ext fun i hi => ?_
  simp only [BitVec.getLsbD_append, BitVec.getLsbD_extractLsb']
  interval_cases i <;> simp

theorem extractLsb'_append (h l : Octet) : (h ++ l).extractLsb' 8 8 = h ∧ (h ++ l).extractLsb' 0 8 = l := by
  constructor
  · exact BitVec.extractLsb'_append_eq_left
  · exact BitVec.extractLsb'_append_eq_right

theorem AnswerFrame.checkPasses (f : AnswerFrame) : checkPasses f.octets = true :=
  decide_eq_true ((check_append f.covered _ _).2 (append_extractLsb' (check f.covered)))

/-- A whole frame that passes its check is the octets of an answer's parts. -/
theorem exists_answerFrame (whole : WholeFrame os) (passes : Machine.checkPasses os = true) :
    ∃ f : AnswerFrame, f.Sized ∧ f.octets = os := by
  obtain ⟨sync, short, extent⟩ := whole
  have long : 7 ≤ os.length := by rw [extent, frameExtent]; omega
  match os, long with
  | s :: k :: a :: t :: n :: more, _ =>
    obtain rfl : s = 0xA5 := sync
    have short : n.toNat ≤ 64 := short
    have size : more.length = extraCount k + n.toNat + 2 := by
      have extent : more.length + 5 = 7 + extraOctets k + n.toNat := extent
      rw [extraOctets_eq] at extent
      omega
    obtain ⟨extra, more, rfl, extraSize⟩ : ∃ e m, more = e ++ m ∧ e.length = extraCount k :=
      ⟨more.take (extraCount k), more.drop (extraCount k), (List.take_append_drop _ _).symm, by simp; omega⟩
    obtain ⟨payload, more, rfl, payloadSize⟩ : ∃ p m, more = p ++ m ∧ p.length = n.toNat :=
      ⟨more.take n.toNat, more.drop n.toNat, (List.take_append_drop _ _).symm, by simp at size ⊢; omega⟩
    obtain ⟨high, low, rfl⟩ : ∃ high low, more = [high, low] :=
      List.length_eq_two.1 (by simp at size; omega)
    have count : BitVec.ofNat 8 payload.length = n := by rw [payloadSize, BitVec.ofNat_toNat, BitVec.setWidth_eq]
    refine ⟨⟨k, a, t, extra, payload⟩, ⟨extraSize, by dsimp only; omega⟩, ?_⟩
    have covered : (⟨k, a, t, extra, payload⟩ : AnswerFrame).covered = k :: a :: t :: n :: (extra ++ payload) := by
      simp [AnswerFrame.covered, count]
    have right : high ++ low = check (k :: a :: t :: n :: (extra ++ payload)) := by
      refine (check_append _ high low).1 ?_
      simpa [Machine.checkPasses] using passes
    rw [AnswerFrame.octets_eq, covered, ← right, count]
    simp [checkOctets, extractLsb'_append]

/-! ## What the receiver makes of an answer's run -/

/-- A run that begins with an answer's frame is received as that frame. -/
theorem receive_of_beginsWith (sized : f.Sized) {run : List RxOctet} (h : BeginsWith f run) :
    receive run = .frame f.octets := by
  obtain ⟨front, rest, rfl, octets, marks, gaps⟩ := h
  refine receiveFrom_front (f.wholeFrame sized) rest front [] ?_ octets marks gaps (fun none => absurd rfl none)
  rintro rfl
  rw [f.octets_eq] at octets
  cases octets

/-- A run that is received as a frame with the right check begins with an answer's frame. -/
theorem exists_beginsWith {run : List RxOctet} (h : receive run = .frame os) (passes : Machine.checkPasses os = true) :
    ∃ f : AnswerFrame, f.Sized ∧ BeginsWith f run := by
  obtain ⟨whole, front, rest, split, octets, marks, gaps, -⟩ := receiveFrom_eq_frame run [] h
  obtain ⟨f, sized, rfl⟩ := exists_answerFrame whole passes
  exact ⟨f, sized, front, rest, split, octets, marks, gaps⟩

/-! ## The fields of an answer (R5, R7) -/

theorem AnswerFrame.parse (sized : f.Sized) :
    parseFrame f.octets =
      { code := kindCode f.kind, repeatFlag := repeatOf f.kind, relayed := relayOf f.kind
        address := lowFive f.address, tag := lowFive f.tag, length := f.payload.length
        status := f.octets.getD 5 0, origin := f.octets.getD 5 0, hop := f.octets.getD 6 0, payload := f.payload } := by
  obtain ⟨extra, short⟩ := sized
  have count : (BitVec.ofNat 8 f.payload.length).toNat = f.payload.length := by
    rw [BitVec.toNat_ofNat]
    exact Nat.mod_eq_of_lt (by omega)
  have kind : f.octets.getD 1 0 = f.kind := by rw [f.octets_eq]; rfl
  have address : f.octets.getD 2 0 = f.address := by rw [f.octets_eq]; rfl
  have tag : f.octets.getD 3 0 = f.tag := by rw [f.octets_eq]; rfl
  have length : (f.octets.getD 4 0).toNat = f.payload.length := by rw [f.octets_eq]; exact count
  have payload : (f.octets.drop (5 + extraCount f.kind)).take f.payload.length = f.payload := by
    rw [f.octets_eq, ← extra, Nat.add_comm]
    simp [List.append_assoc]
  unfold parseFrame
  dsimp only
  rw [kind, address, tag, length, kindCode_eq, extraOctets_eq, payload]

/-- The octet after the length octet, where one stands before the payload. -/
theorem AnswerFrame.getD_five {o : Octet} {extra : List Octet} (h : f.extra = o :: extra) : f.octets.getD 5 0 = o := by
  rw [f.octets_eq, h]
  rfl

theorem AnswerFrame.getD_six {o p : Octet} {extra : List Octet} (h : f.extra = o :: p :: extra) :
    f.octets.getD 6 0 = p := by
  rw [f.octets_eq, h]
  rfl

end Sys2Proof.Machine
end

-- ==== The answer decided (R4, R7, R11 to R13) ====
section
/-! SUPPORT. The tests of R12 on the fields of a frame, the outcome that an answer's run decides, and the two obligations
about the taking of an answer. -/

namespace Sys2Proof.Machine

variable {s : State} {x : Exchange} {f : AnswerFrame} {run : List RxOctet}

/-! ## The tests of R12 -/

/-- No case of R12 applies. -/
theorem protocolCase_eq_none_iff {kind : ExchangeKind} {station : Address} {g : RxFrame} :
    protocolCase kind station g = none ↔
      (8 ≤ g.code ∧ g.code ≤ 13) ∧ validKind kind g.code = true ∧ g.address = station ∧
      kind.tag?.any (· ≠ g.tag) = false ∧ ¬ (g.code ≠ 10 ∧ g.code ≠ 11 ∧ g.length ≠ 0) ∧
      ¬ (g.code = 11 ∧ g.relayed = true ∧ (g.hop.toNat = 0 ∨ 3 < g.hop.toNat)) ∧
      ¬ (g.code = 10 ∧ kind.ack = .reply g.tag) ∧ ¬ (g.code = 11 ∧ kind.ack = .event) := by
  unfold protocolCase
  split_ifs with undefined
  case pos => exact ⟨nofun, fun h => by simp at undefined; omega⟩
  all_goals simp_all

theorem lowFive_eq_iff {o : Octet} {n : Fin 32} : lowFive o = n ↔ lowBits o = n.val := Fin.ext_iff

/-- The fields of a received answer's frame. -/
def AnswerFrame.fields (f : AnswerFrame) : RxFrame :=
  { code := kindCode f.kind, repeatFlag := repeatOf f.kind, relayed := relayOf f.kind
    address := lowFive f.address, tag := lowFive f.tag, length := f.payload.length
    status := f.octets.getD 5 0, origin := f.octets.getD 5 0, hop := f.octets.getD 6 0, payload := f.payload }

/-- A run that begins with an answer's frame is decided by the tests of R12 on the frame's fields: a frame that passes
them all is the answer that its fields give. -/
theorem decideRun_of_passed (sized : f.Sized) (h : BeginsWith f run)
    (passed : protocolCase x.kind x.station f.fields = none) :
    s.decideRun x run = .answer (s.readAnswer x.station f.fields) := by
  have parse : parseFrame f.octets = f.fields := AnswerFrame.parse sized
  unfold State.decideRun
  rw [receive_of_beginsWith sized h]
  dsimp only
  rw [if_pos f.checkPasses, parse, passed]

/-- A frame that fails a test of R12 is a protocol error. -/
theorem decideRun_of_failed (sized : f.Sized) (h : BeginsWith f run)
    (failed : protocolCase x.kind x.station f.fields ≠ none) : s.decideRun x run = .protocolError := by
  have parse : parseFrame f.octets = f.fields := AnswerFrame.parse sized
  obtain ⟨c, hc⟩ := Option.ne_none_iff_exists'.1 failed
  unfold State.decideRun
  rw [receive_of_beginsWith sized h]
  dsimp only
  rw [if_pos f.checkPasses, parse, hc]

/-- The outcome of a run that begins with no intact frame (R11). -/
theorem decideRun_of_no_frame (h : ∀ f : AnswerFrame, f.Sized → ¬ BeginsWith f run) : s.decideRun x run = .checkError := by
  unfold State.decideRun
  split
  · rfl
  · rfl
  · next octets received =>
    refine if_neg fun passes => ?_
    obtain ⟨f, sized, begins⟩ := exists_beginsWith received passes
    exact h f sized begins

/-! ## A valid answer (R7, R13) -/

theorem protocolCase_of_valid {a : Answer} (valid : ValidAnswer s x.kind x.station f a) :
    protocolCase x.kind x.station f.fields = none := by
  obtain ⟨address, kinds⟩ := valid
  rw [protocolCase_eq_none_iff]
  have station : lowFive f.address = x.station := lowFive_eq_iff.2 address
  have tagged {n : SlotNo} (h : lowBits f.tag = n.val) : lowFive f.tag = n := lowFive_eq_iff.2 h
  obtain ⟨n, kind, code, tag, payload, -⟩ | ⟨n, reason, kind, code, tag, payload, -, -⟩ |
    ⟨k, ack, n, octet, kind, code, tag, acked, -, -⟩ | ⟨n, octet, kind, code, tag, -, -⟩ |
    ⟨r, ack, relay, kind, code, acked, relays, -⟩ | ⟨k, ack, kind, code, payload, -⟩ |
    ⟨n, kind, code, tag, payload, -⟩ := kinds
  · simp [AnswerFrame.fields, kind, code, station, tagged tag, payload, validKind, ExchangeKind.tag?]
  · simp [AnswerFrame.fields, kind, code, station, tagged tag, payload, validKind, ExchangeKind.tag?]
  · cases k <;>
      simp [AnswerFrame.fields, kind, code, station, tagged tag, acked, validKind, ExchangeKind.tag?, ExchangeKind.ack]
  · simp [AnswerFrame.fields, kind, code, station, tagged tag, validKind, ExchangeKind.tag?, ExchangeKind.ack]
  · obtain ⟨direct, -⟩ | ⟨origin, hop, relayed, extra, low, high, -⟩ := relays
    · have bit : f.kind[5] = false := by simpa using direct
      simp [AnswerFrame.fields, kind, code, station, acked, bit, validKind, ExchangeKind.tag?, ExchangeKind.ack]
    · have hops : f.octets.getD 6 0 = hop := f.getD_six extra
      simp only [AnswerFrame.fields, kind, code, station, relayed, hops, ExchangeKind.ack, acked, ExchangeKind.tag?,
        validKind]
      exact ⟨by simp, by simp, by simp, by simp, by simp, by omega, by simp, by simp⟩
  · cases k <;> simp [AnswerFrame.fields, kind, code, station, payload, validKind, ExchangeKind.tag?, ExchangeKind.ack]
  · simp [AnswerFrame.fields, kind, code, station, tagged tag, payload, validKind, ExchangeKind.tag?]

theorem readAnswer_of_valid {a : Answer} (valid : ValidAnswer s x.kind x.station f a) :
    s.readAnswer x.station f.fields = a := by
  obtain ⟨-, kinds⟩ := valid
  have tagged {n : SlotNo} (h : lowBits f.tag = n.val) : lowFive f.tag = n := lowFive_eq_iff.2 h
  obtain ⟨n, -, code, -, -, rfl⟩ | ⟨n, reason, -, code, -, -, extra, rfl⟩ |
    ⟨k, ack, n, octet, -, code, tag, -, extra, rfl⟩ | ⟨n, octet, -, code, tag, extra, rfl⟩ |
    ⟨r, ack, relay, -, code, -, relays, rfl⟩ | ⟨k, ack, -, code, -, rfl⟩ | ⟨n, -, code, -, -, rfl⟩ := kinds
  all_goals unfold State.readAnswer AnswerFrame.fields; simp only [code]
  · rw [f.getD_five extra]
  · rw [f.getD_five extra, tagged tag]
  · rw [f.getD_five extra, tagged tag]
  · obtain ⟨direct, rfl⟩ | ⟨origin, hop, relayed, extra, -, -, rfl⟩ := relays
    · rw [if_neg (Bool.eq_false_iff.1 direct), direct]
    · rw [if_pos relayed, f.getD_five extra, f.getD_six extra]

/-- A frame that breaks one of the cases of R12 fails a test. -/
theorem protocolCase_of_breach (breach : Breach x.kind x.station f) :
    protocolCase x.kind x.station f.fields ≠ none := by
  rw [Ne, protocolCase_eq_none_iff]
  rintro ⟨defined, valid, station, tag, length, hops, reply, event⟩
  have address : lowBits f.address = x.station.val := lowFive_eq_iff.1 station
  obtain undefined | wrong | elsewhere | mistagged | long | hop | replied | evented := breach
  · exact undefined defined
  · have valid : validKind x.kind (kindCode f.kind) = true := valid
    revert valid wrong
    rcases x.kind with n | n | ⟨k | r, ack⟩ <;>
      simp only [validKind, Bool.or_eq_true, decide_eq_true_eq, or_assoc] <;> exact fun wrong valid => wrong valid
  · exact elsewhere address
  · have tagOf {n : SlotNo} (named : x.kind.tag? = some n) : lowBits f.tag = n.val := by
      rw [named] at tag
      have same : n = lowFive f.tag := by simpa [AnswerFrame.fields] using tag
      exact lowFive_eq_iff.1 same.symm
    cases kind : x.kind with
    | request n => rw [kind] at mistagged; exact mistagged (tagOf (by rw [kind]; rfl))
    | cancel n => rw [kind] at mistagged; exact mistagged (tagOf (by rw [kind]; rfl))
    | poll k ack => rw [kind] at mistagged; exact mistagged
  · exact length ⟨long.1, long.2.1, by simpa [AnswerFrame.fields] using long.2.2⟩
  · obtain ⟨code, relayed, origin, hop, extra, bad⟩ := hop
    refine hops ⟨code, relayed, ?_⟩
    show (f.octets.getD 6 0).toNat = 0 ∨ 3 < (f.octets.getD 6 0).toNat
    rw [f.getD_six extra]
    exact bad
  · obtain ⟨k, tag, kind, code, same⟩ := replied
    refine reply ⟨code, ?_⟩
    rw [kind]
    exact congrArg Ack.reply (lowFive_eq_iff.2 same).symm
  · obtain ⟨k, kind, code⟩ := evented
    exact event ⟨code, by rw [kind]; rfl⟩

/-! ## The taking of a run -/

theorem Phase.awaitsAnswer_of {p : Phase} (h : p = .receiving ∨ p = .windowOpen) : p.awaitsAnswer = true := by
  obtain rfl | rfl := h <;> rfl

theorem State.takeAnswer_eq (flight : s.lineScheduler.exchange = some x)
    (phase : x.phase = .receiving ∨ x.phase = .windowOpen) :
    s.takeAnswer run =
      ((s.decidedAs x (s.decideRun x run)).noteLineError x.station (s.decideRun x run)).setGap false := by
  unfold State.takeAnswer
  rw [flight]
  dsimp only
  rw [if_pos (Phase.awaitsAnswer_of phase), State.setPhase_eq flight]

/-- Settles O40. -/
theorem aValidAnswerIsDecided : Obligations.AValidAnswerIsDecided := by
  intro s x run f a flight phase sized begins valid
  have decided : s.decideRun x run = .answer a := by
    rw [decideRun_of_passed sized begins (protocolCase_of_valid valid), readAnswer_of_valid valid]
  refine congrArg Host.Outcome.next ((State.takeAnswer_eq flight phase).trans ?_)
  rw [decided]
  rfl

/-- Settles O41. -/
theorem aFaultyAnswerIsDecided : Obligations.AFaultyAnswerIsDecided := by
  intro s x run flight phase
  refine ⟨fun f sized begins breach => ?_, fun none => ?_⟩
  · have decided := decideRun_of_failed (s := s) sized begins (protocolCase_of_breach breach)
    refine congrArg Host.Outcome.next ((State.takeAnswer_eq flight phase).trans ?_)
    rw [decided]
    rfl
  · refine congrArg Host.Outcome.next ((State.takeAnswer_eq flight phase).trans ?_)
    rw [decideRun_of_no_frame none]
    rfl

end Sys2Proof.Machine
end

-- ==== The Line Scheduler's choice (03, 3.2 and 3.3) ====
section
/-! SUPPORT. Eligibility, the poll ring and the search order in the spec's words, what each step of R58 comes to, and the three
obligations about the choice (R6, R54 to R63, R79). -/

namespace Sys2Proof.Machine

variable {s : State} {n : SlotNo} {a b : Address}

/-! ## Eligibility and the ring (R54, R55, R79) -/

theorem StationState.served_iff {e : Station} : e.state.served = true ↔ Served e := by
  unfold Served StationState.served
  cases e.state <;> simp

theorem State.standsFirst_iff :
    s.standsFirst n = true ↔
      ∃ before after, queuedSlots s.dispatchQueue = before ++ n :: after ∧
        ∀ m ∈ before, (s.slot m).station ≠ (s.slot n).station := by
  unfold State.standsFirst
  rw [decide_eq_true_eq, List.find?_eq_some_iff_append]
  simp

theorem State.eligible_iff : s.eligible n = true ↔ Eligible s n := by
  unfold State.eligible
  simp only [Bool.and_eq_true, decide_eq_true_eq, State.standsFirst_iff, StationState.served_iff, and_assoc]

theorem Station.inRing_iff {e : Station} : e.inRing = true ↔ InRing e := by
  unfold Station.inRing
  rw [Bool.and_eq_true, StationState.served_iff]
  simp [or_assoc]

/-! ## The search for a POLL (R62) -/

theorem mem_pollOrder {pointer : Address} : a ∈ pollOrder pointer ↔ a ≠ 0 := by
  have pos : 0 < a.val ↔ a ≠ 0 := Nat.pos_iff_ne_zero.trans (not_congr Fin.val_eq_zero_iff)
  simp only [pollOrder, allStations, List.mem_append, List.mem_filter, List.mem_finRange, true_and, decide_eq_true_eq]
  rw [← and_or_left, pos]
  exact and_iff_left (lt_or_ge pointer a)

theorem pollDistance_ahead {pointer : Address} (h : pointer < a) : pollDistance pointer a = a.val - pointer.val :=
  if_pos h

theorem pollDistance_behind {pointer : Address} (h : a ≤ pointer) :
    pollDistance pointer a = 31 - pointer.val + a.val := if_neg (not_lt.2 h)

/-- The search goes by increasing distance from the pointer. -/
theorem pollOrder_pairwise (pointer : Address) :
    (pollOrder pointer).Pairwise fun a b => pollDistance pointer a < pollDistance pointer b := by
  have sorted (p : Address → Bool) : (allStations.filter p).Pairwise (· < ·) :=
    ((List.pairwise_lt_finRange 32).filter _).filter _
  unfold pollOrder
  refine List.pairwise_append.2 ⟨?_, ?_, fun a ha b hb => ?_⟩
  · refine (sorted _).imp_of_mem fun {a b} ha hb lt => ?_
    have ha : pointer < a := by simpa using (List.mem_filter.1 ha).2
    have hb : pointer < b := by simpa using (List.mem_filter.1 hb).2
    rw [pollDistance_ahead ha, pollDistance_ahead hb]
    have := Fin.lt_def.1 lt
    have := Fin.lt_def.1 ha
    omega
  · refine (sorted _).imp_of_mem fun {a b} ha hb lt => ?_
    have ha : a ≤ pointer := by simpa using (List.mem_filter.1 ha).2
    have hb : b ≤ pointer := by simpa using (List.mem_filter.1 hb).2
    rw [pollDistance_behind ha, pollDistance_behind hb]
    have := Fin.lt_def.1 lt
    omega
  · have ha : pointer < a := by simpa using (List.mem_filter.1 ha).2
    have hb : b ≤ pointer ∧ 0 < b.val := by
      obtain ⟨hb, le⟩ := List.mem_filter.1 hb
      exact ⟨by simpa using le, by simpa [allStations] using hb⟩
    rw [pollDistance_ahead ha, pollDistance_behind hb.1]
    have := a.isLt
    have := Fin.lt_def.1 ha
    omega

/-- In a list in increasing order of a measure, the search finds the least that passes. -/
theorem find?_eq_some_of_least {α : Type} {l : List α} {p : α → Bool} {μ : α → Nat}
    (sorted : l.Pairwise fun x y => μ x < μ y) {x : α} (mem : x ∈ l) (passes : p x = true)
    (least : ∀ y ∈ l, p y = true → μ x ≤ μ y) : l.find? p = some x := by
  induction l with
  | nil => cases mem
  | cons y l ih =>
    obtain ⟨before, sorted⟩ := List.pairwise_cons.1 sorted
    rcases List.mem_cons.1 mem with rfl | mem
    · exact List.find?_cons_of_pos passes
    · have fails : ¬ p y = true := fun hy => by
        have := before x mem
        have := least y List.mem_cons_self hy
        omega
      rw [List.find?_cons_of_neg fails]
      exact ih sorted mem fun z hz => least z (List.mem_cons_of_mem _ hz)

theorem State.pickPoll_eq_some (station : a ≠ 0) (ring : InRing (s.station a))
    (first : ∀ b, b ≠ 0 → InRing (s.station b) →
      pollDistance s.stationTable.rotation a ≤ pollDistance s.stationTable.rotation b) : s.pickPoll = some a :=
  find?_eq_some_of_least (pollOrder_pairwise _) (mem_pollOrder.2 station) (Station.inRing_iff.2 ring)
    fun b hb passes => first b (mem_pollOrder.1 hb) (Station.inRing_iff.1 passes)

theorem State.pickPoll_eq_none (absent : ∀ b, b ≠ 0 → ¬ InRing (s.station b)) : s.pickPoll = none :=
  List.find?_eq_none.2 fun b hb passes => absent b (mem_pollOrder.1 hb) (Station.inRing_iff.1 passes)

/-! ## The search for a REQUEST (R56) -/

theorem mem_levelList {l : Level} {q : List Place} {m : SlotNo} :
    m ∈ levelList l q ↔ ∃ p ∈ q, p.level = l ∧ p.slot = some m := by
  simp only [levelList, mem_queuedSlots, List.mem_filter, decide_eq_true_eq, and_assoc]

theorem State.pickRequest_eq_none (absent : ∀ m, ¬ Eligible s m) : s.pickRequest = none := by
  have empty (l : List SlotNo) : l.find? s.eligible = none :=
    List.find?_eq_none.2 fun m _ passes => absent m (State.eligible_iff.1 passes)
  rw [State.pickRequest, empty, empty]
  rfl

/-- In its level, the slot before which no slot is eligible is the one found. -/
theorem find?_levelList {level : Level} {before after : List Place}
    (queue : s.dispatchQueue = before ++ ⟨level, some n⟩ :: after) (eligible : Eligible s n)
    (first : ∀ p ∈ before, p.level = level → ∀ m, p.slot = some m → ¬ Eligible s m) :
    (levelList level s.dispatchQueue).find? s.eligible = some n := by
  refine List.find?_eq_some_iff_append.2 ⟨State.eligible_iff.2 eligible, levelList level before,
    levelList level after, ?_, fun m hm => ?_⟩
  · rw [queue]
    simp [levelList]
  · obtain ⟨p, hp, same, held⟩ := mem_levelList.1 hm
    simpa [← State.eligible_iff] using first p hp same m held

theorem State.pickRequest_eq_some {level : Level} {before after : List Place}
    (queue : s.dispatchQueue = before ++ ⟨level, some n⟩ :: after) (eligible : Eligible s n)
    (first : ∀ p ∈ before, p.level = level → ∀ m, p.slot = some m → ¬ Eligible s m)
    (urgent : level = .normal → ∀ p ∈ s.dispatchQueue, p.level = .urgent → ∀ m, p.slot = some m → ¬ Eligible s m) :
    s.pickRequest = some n := by
  have found := find?_levelList queue eligible first
  unfold State.pickRequest
  cases level with
  | urgent => rw [found]; rfl
  | normal =>
    have none : (levelList .urgent s.dispatchQueue).find? s.eligible = none :=
      List.find?_eq_none.2 fun m hm passes => by
        obtain ⟨p, hp, same, held⟩ := mem_levelList.1 hm
        exact urgent rfl p hp same m held (State.eligible_iff.1 passes)
    rw [none, found]
    rfl

/-! ## The choice (R57, R58) -/

theorem State.mayChoose_eq_true (running : s.lineEngine.state = .running) (idle : s.lineScheduler.exchange = none)
    (gap : s.lineEngine.gapPassed = true) : s.mayChoose = true := by
  simp [State.mayChoose, running, idle, gap]

theorem State.choose_some (may : s.mayChoose = true) {c : Choice} (h : s.choice = some c) :
    s.choose = s.carryOut c := by
  unfold State.choose
  rw [if_pos may, h]

theorem State.choose_none (h : s.choice = none) : s.choose = s := by
  unfold State.choose
  rw [h]
  exact ite_self s

theorem State.choice_cancel {rest : List SlotNo} (h : s.cancelList = n :: rest) :
    s.choice = some (.cancel n) := by
  unfold State.choice
  rw [h]

/-- With no cancel to send the choice goes by the burst, the ring and the queue. -/
theorem State.choice_of_nil (h : s.cancelList = []) :
    s.choice =
      match (if s.lineScheduler.burst < s.lineScheduler.burstLimit then s.pickRequest else none) with
      | some n => some (.requestInBurst n)
      | none =>
        match s.pickPoll with
        | some a => some (.poll a)
        | none => s.pickRequest.map .requestEmptyRing := by
  unfold State.choice
  split
  · next cancel => cases h.symm.trans cancel
  · rfl

theorem State.sendCancel_slot (s : State) (n m : SlotNo) :
    (s.sendCancel n).slot m = if m = n then { s.slot n with cancelInFlight := true } else s.slot m := by
  show (s.modifySlot n fun r => { r with cancelInFlight := true }).slot m = _
  rw [s.modifySlot_slot]

theorem State.sendRequest_slot (s : State) (n m : SlotNo) :
    (s.sendRequest n).slot m = if m = n then { s.slot n with state := .sending } else s.slot m := by
  show (s.modifySlot n fun r => { r with state := .sending }).slot m = _
  rw [s.modifySlot_slot]

theorem Slot.address_of_station {r : Slot} (h : r.station.toNat = a.val) : r.address = a :=
  Fin.ext (by simp [Slot.address, h])

/-- Settles O42. -/
theorem cancelsAreChosenFirst : Obligations.CancelsAreChosenFirst := by
  intro s
  refine ⟨fun barred => ?_, fun running idle gap => ⟨fun n rest a cancels once station => ?_, fun none slots ring => ?_⟩⟩
  · refine congrArg Host.Outcome.next (if_neg ?_)
    obtain h | h | h := barred
    · simp [State.mayChoose, h]
    · simp [State.mayChoose, h]
    · simp [State.mayChoose, h]
  · have address := Slot.address_of_station station
    have chosen : s.choose = s.sendCancel n :=
      State.choose_some (State.mayChoose_eq_true running idle gap) (State.choice_cancel cancels)
    have left : s.cancelList.filter (· ≠ n) = rest := by
      rw [cancels, List.filter_cons_of_neg (by simp)]
      exact List.filter_eq_self.2 fun m hm => by
        simpa using fun e : m = n => once (e ▸ hm)
    refine ⟨_, congrArg Host.Outcome.next chosen, ?_, ⟨rfl, fun m hm => ?_⟩, ?_⟩
    · rw [← left, ← address]
      rfl
    · exact (s.sendCancel_slot n m).trans (if_neg hm)
    · exact (s.sendCancel_slot n n).trans (if_pos rfl)
  · have choice : s.choice = Option.none := by
      rw [State.choice_of_nil none, State.pickRequest_eq_none slots, State.pickPoll_eq_none ring, ite_self]
      rfl
    exact congrArg Host.Outcome.next (State.choose_none choice)

/-! ## A REQUEST (R6, R36, R61) -/

theorem payloadOctets_length (p : Vector Word 32) (k : Nat) : (payloadOctets p k).length = k := by
  simp [payloadOctets]

/-- The REQUEST frame in the words of 11.5. -/
theorem requestFrame_eq (r : Slot) (a : Address) (n : SlotNo) :
    requestFrame a n (0 < r.attempts) (payloadOctets r.request r.requestLength.toNat) =
      sealFrame
        ([if r.attempts = 0 then 0x01 else 0x11, BitVec.ofNat 8 a.val, BitVec.ofNat 8 n.val,
            r.requestLength.setWidth 8] ++
          (List.range r.requestLength.toNat).map fun i =>
            if i % 2 = 0 then (r.request.toList.getD (i / 2) 0).extractLsb' 0 8
            else (r.request.toList.getD (i / 2) 0).extractLsb' 8 8) := by
  have flag : BitVec.ofNat 8 (1 + 16 * (decide (0 < r.attempts)).toNat) =
      if r.attempts = 0 then 0x01 else 0x11 := by
    rcases Nat.eq_zero_or_pos r.attempts with zero | pos
    · simp [zero]
    · simp [pos, Nat.pos_iff_ne_zero.1 pos]
  unfold requestFrame
  rw [payloadOctets_length, BitVec.ofNat_toNat, flag]
  rfl

/-- The burst counter after the choice of a REQUEST, and the choice that sets it. -/
theorem State.exists_requestChoice (cancels : s.cancelList = []) (found : s.pickRequest = some n) {burst : Nat}
    (counter : s.lineScheduler.burst < s.lineScheduler.burstLimit ∧ burst = s.lineScheduler.burst + 1 ∨
      s.lineScheduler.burstLimit ≤ s.lineScheduler.burst ∧ (∀ b, b ≠ 0 → ¬ InRing (s.station b)) ∧ burst = 0) :
    ∃ c, s.choice = some c ∧ s.carryOut c = (s.setBurst burst).sendRequest n := by
  rw [State.choice_of_nil cancels, found]
  obtain ⟨below, rfl⟩ | ⟨reached, ring, rfl⟩ := counter
  · rw [if_pos below]
    exact ⟨_, rfl, rfl⟩
  · rw [if_neg (not_lt.2 reached), State.pickPoll_eq_none ring]
    exact ⟨_, rfl, rfl⟩

/-- Settles O43. -/
theorem requestsAreChosenByEligibility : Obligations.RequestsAreChosenByEligibility := by
  intro s n level before after a burst running idle gap cancels once queue eligible station first urgent counter
  have found := State.pickRequest_eq_some queue eligible first urgent
  obtain ⟨c, choice, carried⟩ := State.exists_requestChoice cancels found counter
  have chosen := (State.choose_some (State.mayChoose_eq_true running idle gap) choice).trans carried
  have held : holdPlace n s.dispatchQueue = before ++ ⟨level, none⟩ :: after := by
    rw [queue] at once ⊢
    exact holdPlace_split once
  refine ⟨_, congrArg Host.Outcome.next chosen, ?_, ⟨rfl, fun m hm => ?_⟩, ?_⟩
  · rw [← held, ← requestFrame_eq, ← Slot.address_of_station station]
    rfl
  · exact ((s.setBurst burst).sendRequest_slot n m).trans (if_neg hm)
  · exact ((s.setBurst burst).sendRequest_slot n n).trans (if_pos rfl)

/-! ## A POLL (R6, R62, R63) -/

theorem ackOctet_eq (ack : Ack) :
    ackOctet ack =
      match ack with
      | .noAck => 0x00
      | .reply tag => 0x20 + BitVec.ofNat 8 tag.val
      | .event => 0x40 := by
  cases ack with
  | noAck => rfl
  | reply tag => revert tag; decide
  | event => rfl

theorem State.choice_poll (cancels : s.cancelList = [])
    (slots : ∀ n, Eligible s n → s.lineScheduler.burstLimit ≤ s.lineScheduler.burst) (found : s.pickPoll = some a) :
    s.choice = some (.poll a) := by
  have none : (if s.lineScheduler.burst < s.lineScheduler.burstLimit then s.pickRequest else none) = none := by
    split
    · next below => exact State.pickRequest_eq_none fun n hn => absurd (slots n hn) (not_le.2 below)
    · rfl
  rw [State.choice_of_nil cancels, none, found]

/-- The kind of the POLL with what it leaves of the free list (R63, R125, R126). -/
theorem State.pollKindFor_reserve (s : State) (a : Address) :
    if (s.station a).pollMode = .repliesAndEvents ∧ s.eventPool.free ≠ [] then
      ∃ r, s.pollKindFor a = .any r ∧ r ∈ s.eventPool.free ∧ (∀ r' ∈ s.eventPool.free, r ≤ r') ∧
        (s.reserve (s.pollKindFor a)).eventPool.free = s.eventPool.free.filter (· ≠ r)
    else s.pollKindFor a = .replyOnly ∧ (s.reserve (s.pollKindFor a)).eventPool.free = s.eventPool.free := by
  split
  · next any =>
    obtain ⟨mode, some⟩ := any
    obtain ⟨r, hr⟩ := Option.ne_none_iff_exists'.1 fun none => some (EventPool.lowestFree_eq_none.1 none)
    have kind : s.pollKindFor a = .any r := by simp [State.pollKindFor, mode, hr]
    obtain ⟨free, least⟩ := EventPool.lowestFree_eq_some.1 hr
    refine ⟨r, kind, free, least, ?_⟩
    rw [kind]
    rfl
  · next other =>
    have kind : s.pollKindFor a = .replyOnly := by
      unfold State.pollKindFor
      split
      · next mode =>
        have empty : s.eventPool.free = [] := by simpa [mode] using other
        rw [EventPool.lowestFree_eq_none.2 empty]
      · rfl
    rw [kind]
    exact ⟨rfl, rfl⟩

/-- The state in which a POLL with its frame is in flight. -/
def State.pollSent (s : State) (a : Address) (k : PollKind) (frame : List Octet) : State :=
  { s with
    stationTable := { s.stationTable with rotation := a }
    eventPool := { s.eventPool with free := (s.reserve k).eventPool.free }
    lineScheduler :=
      { s.lineScheduler with
        burst := 0
        exchange := some { kind := .poll k (s.station a).ack, station := a, frame := frame, phase := .sending } } }

theorem State.sendPoll_eq (s : State) (a : Address) :
    (s.setBurst 0).sendPoll a =
      s.pollSent a (s.pollKindFor a) (pollFrame a (s.pollKindFor a) (s.station a).ack) := by
  have kind : (s.setBurst 0).pollKindFor a = s.pollKindFor a := rfl
  unfold State.sendPoll
  dsimp only
  rw [kind]
  cases s.pollKindFor a <;> rfl

/-- The POLL frame in the words of 11.5. -/
theorem pollFrame_eq (a : Address) (k : PollKind) (ack : Ack) :
    pollFrame a k ack =
      sealFrame [(match k with | .replyOnly => 0x02 | .any _ => 0x42), BitVec.ofNat 8 a.val,
        (match ack with
         | .noAck => 0x00
         | .reply tag => 0x20 + BitVec.ofNat 8 tag.val
         | .event => 0x40), 0] := by
  have acknowledgement (kind : Octet) := congrArg (fun o => sealFrame [kind, BitVec.ofNat 8 a.val, o, 0]) (ackOctet_eq ack)
  cases k with
  | replyOnly => exact acknowledgement 0x02
  | any r => exact acknowledgement 0x42

/-- Settles O44. -/
theorem pollsGoRoundTheRing : Obligations.PollsGoRoundTheRing := by
  intro s a running idle gap cancels slots station ring first
  have choice := State.choice_poll cancels slots (State.pickPoll_eq_some station ring first)
  have chosen : s.choose = (s.setBurst 0).sendPoll a :=
    State.choose_some (State.mayChoose_eq_true running idle gap) choice
  refine ⟨_, s.pollKindFor a, congrArg Host.Outcome.next (chosen.trans (s.sendPoll_eq a)), ?_, s.pollKindFor_reserve a⟩
  exact congrArg (s.pollSent a (s.pollKindFor a)) (pollFrame_eq a _ _)

end Sys2Proof.Machine
end

-- ==== The books of an outcome, and ACCEPT (03 3.4, 04) ====
section
/-! SUPPORT. What an outcome books on its station where the station is not lost by it, in one equation, and the taking of
ACCEPT (R37, R66, R80 to R84). -/

namespace Sys2Proof.Machine

variable {s u : State} {n : SlotNo} {x : Exchange} {o : ExchangeOutcome}

/-! ## The taking of an outcome -/

/-- The exchange of an outcome has an entry, and the outcome is taken outside STOPPING. -/
theorem exec_outcomeTaken (decided : Decided s x o) (state : s.lineEngine.state ≠ .stopping) :
    exec .outcomeTaken s = .next (s.settle x o) :=
  congrArg Host.Outcome.next ((s.takeOutcome_decided decided).trans (if_neg state))

theorem State.settle_request (kind : x.kind = .request n) :
    s.settle x o = (s.endExchange.requestEffect n o).book x o := by
  unfold State.settle State.applyOutcome
  rw [kind]

theorem State.settle_cancel (kind : x.kind = .cancel n) :
    s.settle x o = (s.endExchange.cancelEffect n o).book x o := by
  unfold State.settle State.applyOutcome
  rw [kind]

theorem State.settle_poll_disabled {k : PollKind} {ack : Ack} (kind : x.kind = .poll k ack)
    (disabled : (s.station x.station).state = .disabled) : s.settle x o = s.endExchange.returnReserved k := by
  unfold State.settle State.applyOutcome
  rw [kind]
  exact if_pos disabled

theorem State.settle_poll {k : PollKind} {ack : Ack} (kind : x.kind = .poll k ack)
    (enabled : (s.station x.station).state ≠ .disabled) :
    s.settle x o = (s.endExchange.pollEffect k x.station o).book x o := by
  unfold State.settle State.applyOutcome
  rw [kind]
  exact if_neg enabled

/-! ## The station's books below the no-answer limit (R80 to R84) -/

/-- The outcome is a lost answer (R83). -/
abbrev ExchangeOutcome.Lost (o : ExchangeOutcome) : Prop := o = .noAnswer ∨ o = .checkError ∨ o = .protocolError

/-- The entry after an outcome: by the answer, by the want of one, or as it was after an echo fault. -/
def Station.booked (holdoff : Nat) (kind : ExchangeKind) (e : Station) : ExchangeOutcome → Station
  | .answer ans => e.answered holdoff kind ans
  | .echoFault => e
  | .noAnswer | .checkError | .protocolError => e.unanswered

/-- The change set after an outcome: a valid answer of an UNKNOWN station joins it. -/
def bookedChanges (a : Address) (e : Station) (changes : BitVec 32) : ExchangeOutcome → BitVec 32
  | .answer _ => if e.state = .unknown then changes ||| BitVec.twoPow 32 a.val else changes
  | .noAnswer | .checkError | .protocolError | .echoFault => changes

/-- The state after the books of an outcome that does not lose the station. -/
def State.booked (u : State) (x : Exchange) (o : ExchangeOutcome) : State :=
  (u.modifyStation x.station fun e => e.booked u.stationTable.holdoff x.kind o).onStations fun t =>
    { t with changes := bookedChanges x.station (u.station x.station) u.stationTable.changes o }

/-- The station is not lost by the outcome (R85). -/
abbrev KeepsStation (u : State) (x : Exchange) (o : ExchangeOutcome) : Prop :=
  o.Lost → (u.station x.station).noAnswer + 1 < u.stationTable.noAnswerLimit

theorem State.book_eq (keeps : KeepsStation u x o) : u.book x o = u.booked x o := by
  cases o with
  | answer ans =>
    show u.bookAnswer x ans = _
    rw [u.bookAnswer_eq, State.booked]
    unfold bookedChanges
    dsimp only
    split <;> rfl
  | noAnswer => exact u.bookSilence_below x.station (keeps (by decide))
  | checkError => exact u.bookSilence_below x.station (keeps (by decide))
  | protocolError => exact u.bookSilence_below x.station (keeps (by decide))
  | echoFault => exact (State.modifyStation_id (s := u) (a := x.station) (g := fun e => e) rfl).symm

theorem State.booked_frame :
    u.booked x o =
      { u with
        stationTable :=
          { u.stationTable with
            entries := (u.booked x o).stationTable.entries
            changes := bookedChanges x.station (u.station x.station) u.stationTable.changes o } } := rfl

@[simp] theorem State.booked_slot (m : SlotNo) : (u.booked x o).slot m = u.slot m := rfl

theorem State.booked_station_self :
    (u.booked x o).station x.station = (u.station x.station).booked u.stationTable.holdoff x.kind o :=
  u.modifyStation_station_self x.station fun e => e.booked u.stationTable.holdoff x.kind o

theorem State.booked_station_ne {b : Address} (h : b ≠ x.station) : (u.booked x o).station b = u.station b :=
  u.modifyStation_station_ne x.station (fun e => e.booked u.stationTable.holdoff x.kind o) h

/-- Where the exchange's own effect touched one entry, the books touch that entry and the change set. -/
theorem OnlyStation.booked (only : OnlyStation x.station s u) : OnlyStationAndChanges x.station s (u.booked x o) := by
  obtain ⟨table, others⟩ := only
  refine ⟨?_, fun b hb => (State.booked_station_ne hb).trans (others b hb)⟩
  rw [State.booked_frame, table]

theorem OnlyStation.booked_changes (only : OnlyStation x.station s u) :
    (u.booked x o).stationTable.changes =
      bookedChanges x.station (u.station x.station) s.stationTable.changes o := by
  rw [State.booked_frame, only.1]

theorem OnlyStation.holdoff (only : OnlyStation x.station s u) : u.stationTable.holdoff = s.stationTable.holdoff := by
  rw [only.1]

theorem OnlyStation.noAnswerLimit (only : OnlyStation x.station s u) :
    u.stationTable.noAnswerLimit = s.stationTable.noAnswerLimit := by
  rw [only.1]

/-! ## ACCEPT (R37) -/

theorem closeHeldPlace_eq (q : List Place) : closeHeldPlace q = q.filter fun p => p.slot ≠ none := by
  refine List.filter_congr fun p _ => ?_
  cases p.slot <;> rfl

/-- The transmission is counted (R25). -/
def Slot.tried (r : Slot) : Slot := { r with attempts := r.attempts + 1 }

theorem State.requestEffect_accept (s : State) (n : SlotNo) :
    s.requestEffect n (.answer .accept) = (s.modifySlot n Slot.tried).acceptSlot n := rfl

/-- Settles O45. -/
theorem acceptIsTaken : Obligations.AcceptIsTaken := by
  intro s x n decided kind station state
  let u := s.endExchange.modifySlot n Slot.tried
  have record : u.slot n = (s.slot n).tried := s.endExchange.modifySlot_slot_self n Slot.tried
  have address : (u.slot n).address = x.station := by rw [record]; exact Slot.address_of_station station
  have own : (u.acceptSlot n).station x.station =
      { s.station x.station with outstanding := (s.station x.station).outstanding + 1 } := by
    rw [u.acceptSlot_station, if_pos address.symm]
    rfl
  have only : OnlyStation x.station s (u.acceptSlot n) := by
    refine ⟨?_, fun b hb => ?_⟩
    · rw [u.acceptSlot_frame]
      rfl
    · rw [u.acceptSlot_station, address, if_neg hb]
      rfl
  have taken : s.settle x (.answer .accept) = (u.acceptSlot n).booked x (.answer .accept) :=
    (State.settle_request kind).trans
      ((congrArg (State.book · x _) (s.endExchange.requestEffect_accept n)).trans (State.book_eq (by simp)))
  refine ⟨_, (exec_outcomeTaken decided state).trans (congrArg _ taken), ?_, ⟨?_, fun m hm => ?_⟩, ?_,
    only.booked, ?_, ?_⟩
  · rw [State.booked_frame, u.acceptSlot_frame, ← closeHeldPlace_eq, record]
    rfl
  · show (u.acceptSlot n).slotTable.postCounter = _
    unfold State.acceptSlot
    dsimp only
    split <;> rfl
  · rw [State.booked_slot, u.acceptSlot_slot, if_neg hm]
    exact s.endExchange.modifySlot_slot_ne n Slot.tried hm
  · rw [State.booked_slot, u.acceptSlot_slot, if_pos rfl, record]
    rfl
  · rw [State.booked_station_self, own, kind]
    simp [Station.booked, Station.answered, Station.startHold, nextAck, ExchangeKind.tag?]
  · rw [only.booked_changes, own]
    rfl

end Sys2Proof.Machine
end

-- ==== A REQUEST that failed (03 3.4) ====
section
/-! SUPPORT. The two ends of a REQUEST that was not accepted, QUEUED again and DONE, and what its outcome books
(R25, R38, R39, R68 to R72). -/

namespace Sys2Proof.Machine

variable {s u : State} {n : SlotNo} {x : Exchange} {o : ExchangeOutcome}

/-! ## QUEUED again or DONE -/

/-- The outcomes of a REQUEST other than ACCEPT that a run can bring. -/
abbrev ExchangeOutcome.Failed (o : ExchangeOutcome) : Prop :=
  o = .noAnswer ∨ o = .checkError ∨ o = .protocolError ∨ o = .echoFault ∨ ∃ reason, o = .answer (.refuse reason)

/-- The attempts after a REQUEST's outcome: an echo fault counts none (R25). -/
def Slot.attemptsAfter (r : Slot) (o : ExchangeOutcome) : Nat :=
  if o = .echoFault then r.attempts else r.attempts + 1

/-- The slot of a REQUEST is QUEUED again (R38, R39). -/
abbrev Slot.Retried (r : Slot) (o : ExchangeOutcome) : Prop :=
  r.hostCancel = false ∧
    (o = .echoFault ∨
      ((∀ reason, o = .answer (.refuse reason) → reason = 1) ∧ r.attemptsAfter o ≤ r.retryLimit.toNat))

/-- The status and the octet of a REQUEST that is not sent again (R38, R39). -/
def failedStatus (hostCancel : Bool) (o : ExchangeOutcome) : Status × Octet :=
  if hostCancel then (.cancelled, 0)
  else match o with
    | .answer (.refuse reason) => if reason = 1 then (.refused, 0) else (.rejected, reason)
    | _ => (.noAnswer, 0)

theorem failedStatus_rejected {reason : Octet} (busy : reason ≠ 1) :
    failedStatus false (.answer (.refuse reason)) = (.rejected, reason) := if_neg busy

/-- The state with the transmission counted. -/
def State.attempted (s : State) (n : SlotNo) (o : ExchangeOutcome) : State :=
  s.modifySlot n fun r => { r with attempts := r.attemptsAfter o }

@[simp] theorem State.attempted_slot_self (s : State) (n : SlotNo) (o : ExchangeOutcome) :
    (s.attempted n o).slot n = { s.slot n with attempts := (s.slot n).attemptsAfter o } :=
  s.modifySlot_slot_self n _

@[simp] theorem State.attempted_slot_ne (s : State) (o : ExchangeOutcome) {m : SlotNo} (h : m ≠ n) :
    (s.attempted n o).slot m = s.slot m := s.modifySlot_slot_ne n _ h

theorem State.modifySlot_id {s : State} {n : SlotNo} {f : Slot → Slot} (h : f (s.slot n) = s.slot n) :
    s.modifySlot n f = s := by
  have same : (s.modifySlot n f).slotTable = s.slotTable :=
    SlotTable.eq_of_slots rfl fun m => by
      show (s.modifySlot n f).slot m = s.slot m
      rw [s.modifySlot_slot]
      split
      · next e => rw [h, e]
      · rfl
  show { s with slotTable := (s.modifySlot n f).slotTable } = s
  rw [same]

/-- The first effect of a REQUEST that was not accepted. -/
theorem State.requestEffect_not_accept (s : State) (n : SlotNo) (failed : o ≠ .answer .accept) :
    s.requestEffect n o =
      if (s.slot n).hostCancel then (s.attempted n o).endRequest n .cancelled 0
      else (s.attempted n o).failRequest n o := by
  have counted :
      (if o = .echoFault then s else s.modifySlot n fun r => { r with attempts := r.attempts + 1 }) =
        s.attempted n o := by
    unfold State.attempted Slot.attemptsAfter
    split
    · exact (State.modifySlot_id rfl).symm
    · rfl
  unfold State.requestEffect
  rw [counted, if_neg failed, State.attempted_slot_self]

theorem State.retrySlot_requeues {status : Status} (within : (s.slot n).attempts ≤ (s.slot n).retryLimit.toNat) :
    s.retrySlot n status = s.requeueSlot n := if_pos within

theorem State.retrySlot_ends {status : Status} (beyond : ¬ (s.slot n).attempts ≤ (s.slot n).retryLimit.toNat) :
    s.retrySlot n status = s.endRequest n status 0 := if_neg beyond

theorem ExchangeOutcome.Failed.ne_accept (failed : o.Failed) : o ≠ .answer .accept := by
  rintro rfl
  simp [ExchangeOutcome.Failed] at failed

theorem State.requestEffect_requeues (s : State) (failed : o.Failed) (retried : (s.slot n).Retried o) :
    s.requestEffect n o = (s.attempted n o).requeueSlot n := by
  obtain ⟨host, allowed⟩ := retried
  rw [s.requestEffect_not_accept n failed.ne_accept, host, if_neg Bool.false_ne_true]
  have retry (status : Status) (within : (s.slot n).attemptsAfter o ≤ (s.slot n).retryLimit.toNat) :
      (s.attempted n o).retrySlot n status = (s.attempted n o).requeueSlot n :=
    State.retrySlot_requeues (by rw [State.attempted_slot_self]; exact within)
  obtain rfl | rfl | rfl | rfl | ⟨reason, rfl⟩ := failed
  · exact retry _ (by simpa using allowed)
  · exact retry _ (by simpa using allowed)
  · exact retry _ (by simpa using allowed)
  · rfl
  · obtain ⟨busy, within⟩ :
        reason = 1 ∧ (s.slot n).attemptsAfter (.answer (.refuse reason)) ≤ (s.slot n).retryLimit.toNat := by
      simpa using allowed
    exact (if_pos busy).trans (retry _ within)

theorem State.requestEffect_ends (s : State) (failed : o.Failed) (ended : ¬ (s.slot n).Retried o) :
    s.requestEffect n o =
      (s.attempted n o).endRequest n (failedStatus (s.slot n).hostCancel o).1
        (failedStatus (s.slot n).hostCancel o).2 := by
  rw [s.requestEffect_not_accept n failed.ne_accept]
  cases host : (s.slot n).hostCancel with
  | true => rfl
  | false =>
    rw [if_neg Bool.false_ne_true]
    have exhausted (status : Status) (beyond : ¬ (s.slot n).attemptsAfter o ≤ (s.slot n).retryLimit.toNat) :
        (s.attempted n o).retrySlot n status = (s.attempted n o).endRequest n status 0 :=
      State.retrySlot_ends (by rw [State.attempted_slot_self]; exact beyond)
    simp only [Slot.Retried, host, true_and, not_or] at ended
    obtain ⟨echo, barred⟩ := ended
    obtain rfl | rfl | rfl | rfl | ⟨reason, rfl⟩ := failed
    · exact exhausted _ (by simpa using barred)
    · exact exhausted _ (by simpa using barred)
    · exact exhausted _ (by simpa using barred)
    · exact absurd rfl echo
    · by_cases busy : reason = 1
      · subst busy
        exact exhausted _ (by simpa using barred)
      · rw [failedStatus_rejected busy]
        exact if_neg busy

/-! ## What stands, and the records -/

/-- A SENDING slot holds no tag with its station, so its end leaves the Station Table. -/
theorem State.endRequest_stationTable (s : State) (n : SlotNo) (sending : (s.slot n).state = .sending) {status : Status}
    (octet : Octet) (notAbandoned : status ≠ .abandoned) :
    (s.endRequest n status octet).stationTable = s.stationTable :=
  (s.onDispatch closeHeldPlace).completeSlot_stationTable n octet []
    (by rw [State.onDispatch_slot, sending]; rfl) notAbandoned

/-- What the end of a REQUEST changes. -/
theorem State.endRequest_frame (s : State) (n : SlotNo) (status : Status) (octet : Octet) :
    s.endRequest n status octet =
      { s with
        slotTable := (s.endRequest n status octet).slotTable
        dispatchQueue := leaveQueue n (closeHeldPlace s.dispatchQueue)
        cancelList := s.cancelList.filter (· ≠ n)
        stationTable := (s.endRequest n status octet).stationTable
        completionUnit := s.completionUnit.join [n] } := rfl

theorem failedStatus_ne_abandoned (hostCancel : Bool) (o : ExchangeOutcome) :
    (failedStatus hostCancel o).1 ≠ .abandoned := by
  unfold failedStatus
  split
  · decide
  · split
    · split
      · exact Status.noConfusion
      · exact Status.noConfusion
    · exact Status.noConfusion

theorem failedStatus_eq (hostCancel : Bool) (failed : o.Failed) :
    if hostCancel then (failedStatus hostCancel o).1 = .cancelled ∧ (failedStatus hostCancel o).2 = 0
    else match (generalizing := false) o with
      | .answer (.refuse reason) =>
        if reason = 1 then (failedStatus hostCancel o).1 = .refused ∧ (failedStatus hostCancel o).2 = 0
        else (failedStatus hostCancel o).1 = .rejected ∧ (failedStatus hostCancel o).2 = reason
      | _ => (failedStatus hostCancel o).1 = .noAnswer ∧ (failedStatus hostCancel o).2 = 0 := by
  cases hostCancel with
  | true => exact ⟨rfl, rfl⟩
  | false =>
    obtain rfl | rfl | rfl | rfl | ⟨reason, rfl⟩ := failed
    · exact ⟨rfl, rfl⟩
    · exact ⟨rfl, rfl⟩
    · exact ⟨rfl, rfl⟩
    · exact ⟨rfl, rfl⟩
    · by_cases busy : reason = 1
      · exact Eq.mpr (if_pos busy) ⟨congrArg Prod.fst (if_pos busy), congrArg Prod.snd (if_pos busy)⟩
      · refine Eq.mpr (if_neg busy) ?_
        rw [failedStatus_rejected busy]
        exact ⟨rfl, rfl⟩

theorem leaveQueue_closeHeldPlace (n : SlotNo) (q : List Place) :
    leaveQueue n (closeHeldPlace q) =
      (q.filter fun p => p.slot ≠ none).filter fun p => p.slot ≠ some n := by
  rw [closeHeldPlace_eq]
  rfl

/-! ## What a failed REQUEST books (R68, R80, R83, R84) -/

theorem Station.booked_refuse (holdoff : Nat) (kind : ExchangeKind) (e : Station) (reason : Octet) :
    e.booked holdoff kind (.answer (.refuse reason)) =
      { e with
        state := if e.state = .unknown then .active else e.state
        noAnswer := 0
        holdRemaining := if reason = 1 then holdoff else e.holdRemaining
        holdDue := if reason = 1 then false else e.holdDue } := by
  by_cases busy : reason = 1
  · rw [if_pos busy, if_pos busy]
    exact if_pos (congrArg Answer.refuse busy)
  · rw [if_neg busy, if_neg busy]
    exact if_neg fun e => busy (Answer.refuse.inj e)

/-- The books of a failed REQUEST, whose own effect left the Station Table. -/
theorem State.booked_failed (table : u.stationTable = s.stationTable) (failed : o.Failed) :
    match (generalizing := false) o with
    | .echoFault =>
      (u.booked x o).station x.station = s.station x.station ∧
        (u.booked x o).stationTable.changes = s.stationTable.changes
    | .answer (.refuse reason) =>
      (u.booked x o).station x.station =
        { s.station x.station with
          state := if (s.station x.station).state = .unknown then .active else (s.station x.station).state,
          noAnswer := 0,
          holdRemaining := if reason = 1 then s.stationTable.holdoff else (s.station x.station).holdRemaining,
          holdDue := if reason = 1 then false else (s.station x.station).holdDue } ∧
      (u.booked x o).stationTable.changes =
        if (s.station x.station).state = .unknown then
          s.stationTable.changes ||| BitVec.twoPow 32 x.station.val
        else s.stationTable.changes
    | _ =>
      (u.booked x o).station x.station = { s.station x.station with noAnswer := (s.station x.station).noAnswer + 1 } ∧
      (u.booked x o).stationTable.changes = s.stationTable.changes := by
  have entry : u.station x.station = s.station x.station := by rw [State.station, table, State.station]
  have own : (u.booked x o).station x.station = (s.station x.station).booked s.stationTable.holdoff x.kind o := by
    rw [State.booked_station_self, entry, table]
  have changes : (u.booked x o).stationTable.changes =
      bookedChanges x.station (s.station x.station) s.stationTable.changes o := by
    rw [State.booked_frame, entry, table]
  obtain rfl | rfl | rfl | rfl | ⟨reason, rfl⟩ := failed
  · exact ⟨own, changes⟩
  · exact ⟨own, changes⟩
  · exact ⟨own, changes⟩
  · exact ⟨own, changes⟩
  · exact ⟨own.trans (Station.booked_refuse _ _ _ _), changes⟩

theorem OnlyStation.of_stationTable {a : Address} (table : u.stationTable = s.stationTable) : OnlyStation a s u :=
  ⟨by rw [table], fun b _ => by rw [State.station, table, State.station]⟩

/-- Settles O46. -/
theorem aFailedRequestIsTaken : Obligations.AFailedRequestIsTaken := by
  intro s x n o decided kind sending station state failed below
  have keeps : KeepsStation s x o := fun lost => below
    (by rintro rfl; exact absurd lost (by decide)) (by rintro reason rfl; exact absurd lost (by simp))
  let u := s.endExchange.attempted n o
  have record : u.slot n = { s.slot n with attempts := (s.slot n).attemptsAfter o } :=
    s.endExchange.attempted_slot_self n o
  have others {m : SlotNo} (hm : m ≠ n) : u.slot m = s.slot m := s.endExchange.attempted_slot_ne o hm
  by_cases retried : (s.slot n).Retried o
  · have table : (u.requeueSlot n).stationTable = s.stationTable := rfl
    have taken : s.settle x o = (u.requeueSlot n).booked x o :=
      (State.settle_request kind).trans
        ((congrArg (State.book · x o) (s.endExchange.requestEffect_requeues failed retried)).trans
          (State.book_eq keeps))
    refine ⟨_, (exec_outcomeTaken decided state).trans (congrArg _ taken), rfl, ⟨rfl, fun m hm => ?_⟩,
      Eq.mpr (if_pos retried) ⟨?_, rfl, rfl, rfl⟩, (OnlyStation.of_stationTable table).booked,
      State.booked_failed table failed⟩
    · rw [State.booked_slot, u.requeueSlot_slot, if_neg hm, others hm]
    · rw [State.booked_slot, u.requeueSlot_slot, if_pos rfl, record]
      rfl
  · have stillSending : (u.slot n).state = .sending := by rw [record]; exact sending
    let v := u.endRequest n (failedStatus (s.slot n).hostCancel o).1 (failedStatus (s.slot n).hostCancel o).2
    have table : v.stationTable = s.stationTable :=
      u.endRequest_stationTable n stillSending _ (failedStatus_ne_abandoned _ o)
    have taken : s.settle x o = v.booked x o :=
      (State.settle_request kind).trans
        ((congrArg (State.book · x o) (s.endExchange.requestEffect_ends failed retried)).trans
          (State.book_eq (u := v) (by
            unfold KeepsStation State.station
            rw [table]
            exact keeps)))
    refine ⟨_, (exec_outcomeTaken decided state).trans (congrArg _ taken), ?_, ⟨rfl, fun m hm => ?_⟩,
      Eq.mpr (if_neg retried) ⟨⟨_, _, ?_, failedStatus_eq _ failed⟩, ?_, rfl, ?_⟩,
      (OnlyStation.of_stationTable table).booked, State.booked_failed table failed⟩
    · have frame : v = _ := u.endRequest_frame n _ _
      rw [State.booked_frame, frame]
      rfl
    · rw [State.booked_slot, u.endRequest_slot, if_neg hm, others hm]
    · rw [State.booked_slot, u.endRequest_slot, if_pos rfl, record, Slot.finished_nil]
      rfl
    · exact leaveQueue_closeHeldPlace n s.dispatchQueue
    · exact CompletionUnit.join_singleton _ n

end Sys2Proof.Machine
end

-- ==== The outcome of a CANCEL (05) ====
section
/-! SUPPORT. The ends of a CANCEL, the slot completed or on the Cancel List again, and what its outcome books (R41, R99 to
R102). -/

namespace Sys2Proof.Machine

variable {s u v : State} {n : SlotNo} {x : Exchange} {o : ExchangeOutcome} {a : Address}

/-! ## A completed slot that stood in no list -/

theorem leaveQueue_eq_self {q : List Place} (absent : n ∉ queuedSlots q) : leaveQueue n q = q :=
  List.filter_eq_self.2 fun p hp => by
    simpa using fun e : p.slot = some n => absent (mem_queuedSlots.2 ⟨p, hp, e⟩)

theorem filter_ne_eq_self {l : List SlotNo} (absent : n ∉ l) : l.filter (· ≠ n) = l :=
  List.filter_eq_self.2 fun m hm => by simpa using fun e : m = n => absent (e ▸ hm)

theorem State.completeSlot_frame (s : State) (n : SlotNo) (status : Status) (octet : Octet) (payload : List Octet) :
    s.completeSlot n status octet payload =
      { s with
        slotTable := (s.completeSlot n status octet payload).slotTable
        dispatchQueue := leaveQueue n s.dispatchQueue
        cancelList := s.cancelList.filter (· ≠ n)
        stationTable := (s.completeSlot n status octet payload).stationTable
        completionUnit := s.completionUnit.joined [n] } := by
  rw [s.completeSlot_eq, s.finishSlot_frame]

/-- A completion touches the entry of its slot's station alone. -/
theorem OnlyStation.completeSlot (table : u.stationTable = s.stationTable) (address : (u.slot n).address = a)
    (status : Status) (octet : Octet) (payload : List Octet) :
    OnlyStation a s (u.completeSlot n status octet payload) := by
  refine ⟨?_, fun b hb => ?_⟩
  · rw [← table]
    exact u.finishSlot_stationTable n status octet payload
  · rw [u.completeSlot_station, address, if_neg hb, State.station, table, State.station]

/-- The station is kept where the exchange's own effect left its no-answer count. -/
theorem OnlyStation.keeps (only : OnlyStation x.station s v)
    (count : (v.station x.station).noAnswer = (s.station x.station).noAnswer) (keeps : KeepsStation s x o) :
    KeepsStation v x o := by
  unfold KeepsStation
  rw [count, only.noAnswerLimit]
  exact keeps

/-! ## The effect of a CANCEL -/

/-- What the effect of a CANCEL for slot `n` changes of `s`, before the books. -/
structure CancelLands (s : State) (x : Exchange) (n : SlotNo) (v : State) : Prop where
  frame : v =
    { s with
      slotTable := v.slotTable, cancelList := v.cancelList, stationTable := v.stationTable,
      completionUnit := v.completionUnit, lineScheduler := { s.lineScheduler with exchange := none } }
  slots : OnlySlot n s v
  stations : OnlyStation x.station s v
  count : (v.station x.station).noAnswer = (s.station x.station).noAnswer

/-- The taking of a CANCEL's outcome: its effect, and the books. -/
theorem CancelLands.taken (lands : CancelLands s x n v) (effect : s.endExchange.cancelEffect n o = v)
    (decided : Decided s x o) (kind : x.kind = .cancel n) (state : s.lineEngine.state ≠ .stopping)
    (keeps : KeepsStation s x o) :
    exec .outcomeTaken s = .next (v.booked x o) ∧
      v.booked x o =
        { s with
          slotTable := (v.booked x o).slotTable, cancelList := (v.booked x o).cancelList,
          stationTable := (v.booked x o).stationTable, completionUnit := (v.booked x o).completionUnit,
          lineScheduler := { s.lineScheduler with exchange := none } } ∧
      OnlySlot n s (v.booked x o) ∧ OnlyStationAndChanges x.station s (v.booked x o) := by
  have taken : s.settle x o = v.booked x o :=
    (State.settle_cancel kind).trans
      ((congrArg (State.book · x o) effect).trans (State.book_eq (lands.stations.keeps lands.count keeps)))
  refine ⟨(exec_outcomeTaken decided state).trans (congrArg _ taken), ?_, lands.slots, lands.stations.booked⟩
  rw [State.booked_frame, lands.frame]

/-- Only the record of slot `n` differs from that of `s`, and no exchange is in flight. -/
structure RecordTouched (s : State) (n : SlotNo) (r : Slot) (u : State) : Prop where
  frame : u = { s.endExchange with slotTable := u.slotTable }
  slots : OnlySlot n s u
  record : u.slot n = r

theorem RecordTouched.stationTable {r : Slot} (touched : RecordTouched s n r u) : u.stationTable = s.stationTable :=
  (congrArg State.stationTable touched.frame).trans rfl

theorem RecordTouched.modifySlot {r : Slot} (touched : RecordTouched s n r u) (f : Slot → Slot) :
    RecordTouched s n (f r) (u.modifySlot n f) where
  frame := by
    show { u with slotTable := (u.modifySlot n f).slotTable } = _
    rw [touched.frame]
  slots := ⟨touched.slots.1, fun m hm => (u.modifySlot_slot_ne n f hm).trans (touched.slots.2 m hm)⟩
  record := (u.modifySlot_slot_self n f).trans (congrArg f touched.record)

theorem recordTouched_endExchange (s : State) (n : SlotNo) : RecordTouched s n (s.slot n) s.endExchange :=
  ⟨rfl, ⟨rfl, fun _ _ => rfl⟩, rfl⟩

section

variable {r : Slot} (touched : RecordTouched s n r u)

include touched

/-- The slot is completed (R99, R100). -/
theorem RecordTouched.completes (address : r.address = x.station) (queue : n ∉ queuedSlots s.dispatchQueue)
    (status : Status) (octet : Octet) (payload : List Octet) :
    CancelLands s x n (u.completeSlot n status octet payload) where
  frame := by
    have stands : leaveQueue n u.dispatchQueue = s.dispatchQueue := by
      rw [touched.frame]
      exact leaveQueue_eq_self queue
    rw [State.completeSlot_frame, stands]
    rw [touched.frame]
    rfl
  slots := ⟨touched.slots.1, fun m hm =>
    (u.completeSlot_slot_ne n status octet payload hm).trans (touched.slots.2 m hm)⟩
  stations := OnlyStation.completeSlot touched.stationTable ((congrArg Slot.address touched.record).trans address) _ _ _
  count := by
    rw [u.completeSlot_station, touched.record, address, if_pos rfl, State.station, touched.stationTable]
    rfl

/-- The slot goes to the tail of the Cancel List (R98). -/
theorem RecordTouched.rejoins : CancelLands s x n (u.rejoinCancelList n) where
  frame := by
    show { u with cancelList := u.cancelList ++ [n] } = _
    rw [touched.frame]
    rfl
  slots := touched.slots
  stations := OnlyStation.of_stationTable touched.stationTable
  count := by
    show (u.stationTable.entries[x.station]).noAnswer = _
    rw [touched.stationTable]
    rfl

/-- The entry of the station after the completion of a slot whose tag it held. -/
theorem RecordTouched.completes_station (address : r.address = x.station) (held : r.state.held = true)
    (status : Status) (octet : Octet) (payload : List Octet) :
    (u.completeSlot n status octet payload).station x.station = (s.station x.station).release n true status := by
  rw [u.completeSlot_station, touched.record, address, if_pos rfl, held, State.station, touched.stationTable]
  rfl

theorem RecordTouched.completes_slot (status : Status) (octet : Octet) (payload : List Octet) :
    (u.completeSlot n status octet payload).slot n = r.finished status octet payload s.lineEngine.clock := by
  rw [u.completeSlot_slot_self, touched.record, touched.frame]
  rfl

theorem RecordTouched.completes_lists (status : Status) (octet : Octet) (payload : List Octet) :
    (u.completeSlot n status octet payload).cancelList = s.cancelList.filter (· ≠ n) ∧
      (u.completeSlot n status octet payload).completionUnit = s.completionUnit.joined [n] := by
  rw [State.completeSlot_frame, touched.frame]
  exact ⟨rfl, rfl⟩

theorem RecordTouched.rejoins_station : (u.rejoinCancelList n).station x.station = s.station x.station := by
  show u.stationTable.entries[x.station] = _
  rw [touched.stationTable]
  rfl

theorem RecordTouched.rejoins_lists :
    (u.rejoinCancelList n).cancelList = s.cancelList ++ [n] ∧
      (u.rejoinCancelList n).completionUnit = s.completionUnit := by
  show u.cancelList ++ [n] = _ ∧ u.completionUnit = _
  rw [touched.frame]
  exact ⟨rfl, rfl⟩

end

/-! ## The three ends (R41, R99, R101, R102) -/

/-- The record with the cancel-in-flight flag cleared (R41). -/
def Slot.landed (r : Slot) : Slot := { r with cancelInFlight := false }

/-- The record with one more CANCEL counted as lost (R101). -/
def Slot.cancelLost (r : Slot) : Slot := { r with cancelAttempts := r.cancelAttempts + 1 }

theorem recordTouched_landed (s : State) (n : SlotNo) :
    RecordTouched s n (s.slot n).landed (s.endExchange.modifySlot n Slot.landed) :=
  (recordTouched_endExchange s n).modifySlot Slot.landed

theorem State.cancelEffect_cancelled (s : State) (n : SlotNo) :
    s.cancelEffect n (.answer .cancelled) =
      (s.modifySlot n Slot.landed).completeSlot n (if (s.slot n).deadlineExpired then .timeout else .cancelled) 0 [] := by
  have same : ((s.modifySlot n Slot.landed).slot n).deadlineExpired = (s.slot n).deadlineExpired := by
    rw [State.modifySlot_slot_self]
    rfl
  rw [← same]
  rfl

theorem State.cancelEffect_lost (s : State) (n : SlotNo) (lost : o.Lost) :
    s.cancelEffect n o =
      if (s.slot n).cancelAttempts + 1 < 3 then
        ((s.modifySlot n Slot.landed).modifySlot n Slot.cancelLost).rejoinCancelList n
      else ((s.modifySlot n Slot.landed).modifySlot n Slot.cancelLost).completeSlot n .abandoned 0 [] := by
  have effect : s.cancelEffect n o = (s.modifySlot n Slot.landed).cancelUnanswered n := by
    obtain rfl | rfl | rfl := lost <;> rfl
  have counted : (((s.modifySlot n Slot.landed).modifySlot n Slot.cancelLost).slot n).cancelAttempts =
      (s.slot n).cancelAttempts + 1 := by
    rw [State.modifySlot_slot_self, State.modifySlot_slot_self]
    rfl
  rw [effect]
  show (if 3 ≤ (((s.modifySlot n Slot.landed).modifySlot n Slot.cancelLost).slot n).cancelAttempts then _ else _) = _
  rw [counted]
  split
  · next third => exact (if_neg (not_lt.2 third)).symm
  · next fewer => exact (if_pos (not_le.1 fewer)).symm

/-- What a lost answer to a CANCEL leaves: the slot waits again, or is ABANDONED at the third (R83, R101). -/
theorem lostCancel_taken (decided : Decided s x o) (kind : x.kind = .cancel n)
    (cancelling : (s.slot n).state = .cancelling) (cancels : n ∉ s.cancelList)
    (queue : n ∉ queuedSlots s.dispatchQueue) (station : (s.slot n).station.toNat = x.station.val)
    (state : s.lineEngine.state ≠ .stopping) (lost : o.Lost)
    (below : (s.station x.station).noAnswer + 1 < s.stationTable.noAnswerLimit) :
    ∃ t, exec .outcomeTaken s = .next t ∧
      t = { s with
            slotTable := t.slotTable, cancelList := t.cancelList, stationTable := t.stationTable,
            completionUnit := t.completionUnit, lineScheduler := { s.lineScheduler with exchange := none } } ∧
      OnlySlot n s t ∧ OnlyStationAndChanges x.station s t ∧ t.stationTable.changes = s.stationTable.changes ∧
      if (s.slot n).cancelAttempts + 1 < 3 then
        t.slot n = { s.slot n with cancelInFlight := false, cancelAttempts := (s.slot n).cancelAttempts + 1 } ∧
        t.cancelList = s.cancelList ++ [n] ∧ t.completionUnit = s.completionUnit ∧
        t.station x.station = { s.station x.station with noAnswer := (s.station x.station).noAnswer + 1 }
      else
        t.slot n =
          { (s.slot n).ended .abandoned 0 s.lineEngine.clock with
            cancelInFlight := false, cancelAttempts := (s.slot n).cancelAttempts + 1 } ∧
        t.cancelList = s.cancelList ∧ t.completionUnit = s.completionUnit.joined [n] ∧
        t.station x.station =
          { s.station x.station with
            outstanding := (s.station x.station).outstanding - 1,
            noAnswer := (s.station x.station).noAnswer + 1,
            quarantine := (s.station x.station).quarantine ||| BitVec.twoPow 32 n.val } := by
  have touched := (recordTouched_landed s n).modifySlot Slot.cancelLost
  have address : (s.slot n).landed.cancelLost.address = x.station := Slot.address_of_station station
  have held : (s.slot n).landed.cancelLost.state.held = true := congrArg SlotState.held cancelling
  have booked (holdoff : Nat) (e : Station) : e.booked holdoff x.kind o = e.unanswered := by
    obtain rfl | rfl | rfl := lost <;> rfl
  have changes (e : Station) (c : BitVec 32) : bookedChanges x.station e c o = c := by
    obtain rfl | rfl | rfl := lost <;> rfl
  have effect := s.endExchange.cancelEffect_lost n lost
  by_cases fewer : (s.slot n).cancelAttempts + 1 < 3
  · have lands : CancelLands s x n _ := touched.rejoins
    obtain ⟨taken, frame, slots, stations⟩ :=
      lands.taken (effect.trans (if_pos fewer)) decided kind state fun _ => below
    obtain ⟨list, unit⟩ := touched.rejoins_lists
    refine ⟨_, taken, frame, slots, stations, ?_, Eq.mpr (if_pos fewer) ⟨touched.record, list, unit, ?_⟩⟩
    · rw [lands.stations.booked_changes, changes]
    · rw [State.booked_station_self, touched.rejoins_station, booked]
      rfl
  · have lands : CancelLands s x n _ := touched.completes address queue .abandoned 0 []
    obtain ⟨taken, frame, slots, stations⟩ :=
      lands.taken (effect.trans (if_neg fewer)) decided kind state fun _ => below
    obtain ⟨list, unit⟩ := touched.completes_lists .abandoned 0 []
    rw [filter_ne_eq_self cancels] at list
    refine ⟨_, taken, frame, slots, stations, ?_, Eq.mpr (if_neg fewer) ⟨?_, list, unit, ?_⟩⟩
    · rw [lands.stations.booked_changes, changes]
    · rw [State.booked_slot, touched.completes_slot, Slot.finished_nil]
      rfl
    · rw [State.booked_station_self, touched.completes_station address held, booked]
      rfl

/-- Settles O47. -/
theorem aCancelsOutcomeIsTaken : Obligations.ACancelsOutcomeIsTaken := by
  intro s x n o decided kind cancelling cancels queue station state outcome below
  have lost (h : o.Lost) := lostCancel_taken decided kind cancelling cancels queue station state h
    (below (by rintro rfl; exact absurd h (by decide)) (by rintro rfl; exact absurd h (by decide)))
  obtain rfl | rfl | rfl | rfl | rfl := outcome
  · exact lost (by decide)
  · exact lost (by decide)
  · exact lost (by decide)
  · have touched := recordTouched_landed s n
    have lands : CancelLands s x n _ := touched.rejoins
    obtain ⟨taken, frame, slots, stations⟩ := lands.taken rfl decided kind state fun h => absurd h (by decide)
    obtain ⟨list, unit⟩ := touched.rejoins_lists
    refine ⟨_, taken, frame, slots, stations, touched.record, list, unit, ?_, lands.stations.booked_changes⟩
    exact State.booked_station_self.trans touched.rejoins_station
  · have touched := recordTouched_landed s n
    have address : (s.slot n).landed.address = x.station := Slot.address_of_station station
    have held : (s.slot n).landed.state.held = true := congrArg SlotState.held cancelling
    let status : Status := if (s.slot n).deadlineExpired then .timeout else .cancelled
    have lands : CancelLands s x n _ := touched.completes address queue status 0 []
    obtain ⟨taken, frame, slots, stations⟩ := lands.taken (s.endExchange.cancelEffect_cancelled n) decided kind state
      fun h => absurd h (by decide)
    obtain ⟨list, unit⟩ := touched.completes_lists status 0 []
    rw [filter_ne_eq_self cancels] at list
    have entry : (s.station x.station).release n true status =
        { s.station x.station with outstanding := (s.station x.station).outstanding - 1 } := by
      cases h : (s.slot n).deadlineExpired <;> simp [Station.release, status, h]
    have own := touched.completes_station address held status 0 []
    rw [entry] at own
    refine ⟨_, taken, frame, slots, stations, ?_, list, unit, ?_, ?_⟩
    · rw [State.booked_slot, touched.completes_slot, Slot.finished_nil]
      rfl
    · rw [State.booked_station_self, own]
      rfl
    · rw [lands.stations.booked_changes, own]
      rfl

end Sys2Proof.Machine
end

-- ==== A REPLY, matched or stray (05) ====
section
/-! SUPPORT. The effect of a valid REPLY to a POLL or to its own tag's CANCEL, in both its cases, and what it books (R92 to
R95, R100, R130). -/

namespace Sys2Proof.Machine

variable {s u v : State} {tag : SlotNo} {x : Exchange} {octet : Octet} {payload : List Octet} {free : List RecordNo}

/-! ## The two cases of R92 -/

/-- The slot of the tag names the station and is WAITING or CANCELLING (R92). -/
abbrev ReplyMatches (s : State) (x : Exchange) (tag : SlotNo) : Prop :=
  (s.slot tag).station.toNat = x.station.val ∧ ((s.slot tag).state = .waiting ∨ (s.slot tag).state = .cancelling)

/-- The status of a slot that a reply completes (R92). -/
def Slot.repliedStatus (r : Slot) : Status := if r.state = .waiting then .ok else .late

theorem State.takeReply_matched (h : ReplyMatches s x tag) :
    s.takeReply x.station tag octet payload = s.completeSlot tag (s.slot tag).repliedStatus octet payload := by
  obtain ⟨station, state⟩ := h
  have names : (s.slot tag).names x.station = true := decide_eq_true station
  unfold State.takeReply Slot.repliedStatus
  rcases state with state | state <;> simp [names, state]

theorem State.takeReply_stray (h : ¬ ReplyMatches s x tag) :
    s.takeReply x.station tag octet payload = s.takeStray x.station tag := by
  have barred (state : SlotState) (among : state = .waiting ∨ state = .cancelling) :
      ¬ ((s.slot tag).names x.station && decide ((s.slot tag).state = state)) = true := fun e => by
    obtain ⟨names, same⟩ := (Bool.and_eq_true _ _).mp e
    exact h ⟨of_decide_eq_true names, of_decide_eq_true same ▸ among⟩
  exact (if_neg (barred .waiting (.inl rfl))).trans (if_neg (barred .cancelling (.inr rfl)))

theorem packPayload_getElem (octets : List Octet) (k : Fin 32) :
    (packPayload octets)[k] = octets.getD (2 * k.val + 1) 0 ++ octets.getD (2 * k.val) 0 := by
  simp [packPayload]

/-! ## The effect of a REPLY, before the books -/

/-- The state with another free list (R129, R130). -/
def State.withFree (s : State) (free : List RecordNo) : State :=
  { s with eventPool := { s.eventPool with free := free } }

/-- What a matched REPLY leaves (R92, R93, R100). -/
structure ReplyMatched (s : State) (x : Exchange) (tag : SlotNo) (octet : Octet) (payload : List Octet) (v : State) :
    Prop where
  record : v.slot tag =
    { s.slot tag with
      state := .done, status := if (s.slot tag).state = .waiting then .ok else .late, replyStatus := octet,
      replyLength := payload.length, reply := packPayload payload, completionTime := s.lineEngine.clock,
      cancelInFlight := false }
  cancelList : v.cancelList = s.cancelList.filter (· ≠ tag)
  completionUnit : v.completionUnit = s.completionUnit.joined [tag]
  strayRecord : v.strayRecord = s.strayRecord
  entry : v.station x.station =
    { s.station x.station with outstanding := (s.station x.station).outstanding - 1 }

/-- What a stray REPLY leaves (R94). -/
structure ReplyStray (s : State) (x : Exchange) (tag : SlotNo) (v : State) : Prop where
  record : v.slot tag = s.slot tag
  cancelList : v.cancelList = s.cancelList
  completionUnit : v.completionUnit =
    { s.completionUnit with causes := { s.completionUnit.causes with stray := true } }
  strayRecord : v.strayRecord = { station := x.station, tag := tag, time := s.lineEngine.clock }
  entry : v.station x.station =
    { s.station x.station with
      quarantine := (s.station x.station).quarantine &&& ~~~(BitVec.twoPow 32 tag.val) }

/-- What either leaves. -/
structure ReplyLands (s : State) (x : Exchange) (tag : SlotNo) (free : List RecordNo) (v : State) : Prop where
  frame : v =
    { s with
      slotTable := v.slotTable, cancelList := v.cancelList, stationTable := v.stationTable,
      eventPool := { s.eventPool with free := free }, completionUnit := v.completionUnit,
      strayRecord := v.strayRecord, lineScheduler := { s.lineScheduler with exchange := none } }
  slots : OnlySlot tag s v
  stations : OnlyStation x.station s v

/-- A matched reply completes the slot (R92, R93). -/
theorem RecordTouched.replyMatched (touched : RecordTouched (s.withFree free) tag (s.slot tag).landed u)
    (matched : ReplyMatches s x tag) (unqueued : tag ∉ queuedSlots s.dispatchQueue) :
    ReplyLands s x tag free (u.completeSlot tag (s.slot tag).repliedStatus octet payload) ∧
      ReplyMatched s x tag octet payload (u.completeSlot tag (s.slot tag).repliedStatus octet payload) := by
  obtain ⟨station, state⟩ := matched
  have address : (s.slot tag).landed.address = x.station := Slot.address_of_station station
  have held : (s.slot tag).landed.state.held = true := by
    rcases state with e | e <;> exact congrArg SlotState.held e
  have kept : (s.station x.station).release tag true (s.slot tag).repliedStatus =
      { s.station x.station with outstanding := (s.station x.station).outstanding - 1 } := by
    rcases state with e | e <;> simp [Slot.repliedStatus, Station.release, e]
  have lands : CancelLands (s.withFree free) x tag _ :=
    touched.completes address unqueued (s.slot tag).repliedStatus octet payload
  obtain ⟨list, unit⟩ := touched.completes_lists (s.slot tag).repliedStatus octet payload
  refine ⟨⟨?_, lands.slots, lands.stations⟩,
    touched.completes_slot _ octet payload, list, unit, ?_, (touched.completes_station address held _ _ _).trans kept⟩
  · rw [lands.frame]
    rfl
  · rw [lands.frame]
    rfl

/-- A stray reply frees its tag and leaves its record (R94). -/
theorem replyStray_takeStray (s : State) (x : Exchange) (tag : SlotNo) (free : List RecordNo) :
    ReplyLands s x tag free ((s.withFree free).endExchange.takeStray x.station tag) ∧
      ReplyStray s x tag ((s.withFree free).endExchange.takeStray x.station tag) :=
  ⟨⟨rfl, ⟨rfl, fun _ _ => rfl⟩, rfl, fun _ hb => (State.takeStray_station _ x.station tag _).trans (if_neg hb)⟩,
    rfl, rfl, rfl, rfl, (State.takeStray_station _ x.station tag _).trans (if_pos rfl)⟩

/-! ## The record reserved for the exchange -/

theorem State.mem_returnReserved (s : State) (k : PollKind) (y : RecordNo) :
    y ∈ (s.returnReserved k).eventPool.free ↔ y ∈ s.eventPool.free ∨ k = .any y := by
  cases k with
  | replyOnly => simp [State.returnReserved]
  | any r =>
    show y ∈ (s.eventPool.giveFree r).free ↔ _
    rw [EventPool.mem_giveFree, PollKind.any.injEq, or_comm, eq_comm]

/-! ## Either exchange -/

/-- The effect of a REPLY, to a POLL or to the tag's own CANCEL. -/
theorem reply_lands {r : Bool}
    (kind : (∃ k ack, x.kind = .poll k ack) ∨
      x.kind = .cancel tag ∧ (s.slot tag).state = .cancelling ∧ (s.slot tag).station.toNat = x.station.val)
    (enabled : (s.station x.station).state ≠ .disabled)
    (inFlight : (s.slot tag).cancelInFlight = true → x.kind = .cancel tag)
    (queued : tag ∈ queuedSlots s.dispatchQueue → (s.slot tag).state = .queued) :
    ∃ free v, s.settle x (.answer (.reply tag r octet payload)) = v.book x (.answer (.reply tag r octet payload)) ∧
      (∀ y, y ∈ free ↔ y ∈ s.eventPool.free ∨ ∃ ack, x.kind = .poll (.any y) ack) ∧ ReplyLands s x tag free v ∧
      (ReplyMatches s x tag → ReplyMatched s x tag octet payload v) ∧
      (¬ ReplyMatches s x tag → ReplyStray s x tag v) := by
  have unqueued (matched : ReplyMatches s x tag) : tag ∉ queuedSlots s.dispatchQueue := fun h => by
    have := queued h
    obtain ⟨-, e | e⟩ := matched <;> simp [this] at e
  obtain ⟨k, ack, kind⟩ | ⟨kind, cancelling, station⟩ := kind
  · have settle := State.settle_poll (o := .answer (.reply tag r octet payload)) kind enabled
    have returned : s.endExchange.returnReserved k = (s.withFree (s.returnReserved k).eventPool.free).endExchange := by
      cases k <;> rfl
    have members (y : RecordNo) :
        y ∈ (s.returnReserved k).eventPool.free ↔ y ∈ s.eventPool.free ∨ ∃ ack, x.kind = .poll (.any y) ack := by
      rw [s.mem_returnReserved, kind]
      simp
    have effect : s.endExchange.pollEffect k x.station (.answer (.reply tag r octet payload)) =
        (s.withFree (s.returnReserved k).eventPool.free).endExchange.takeReply x.station tag octet payload := by
      rw [← returned]
      rfl
    refine ⟨_, _, settle.trans (congrArg (State.book · x _) effect), members, ?_⟩
    by_cases matched : ReplyMatches s x tag
    · have clear : (s.slot tag).landed = s.slot tag := by
        have off : (s.slot tag).cancelInFlight = false :=
          Bool.eq_false_iff.2 fun on => by
            have own := inFlight on
            rw [kind] at own
            cases own
        rw [Slot.landed, ← off]
      have touched := recordTouched_endExchange (s.withFree (s.returnReserved k).eventPool.free) tag
      have landed : RecordTouched _ tag (s.slot tag).landed _ := clear.symm ▸ touched
      obtain ⟨lands, done⟩ := landed.replyMatched (octet := octet) (payload := payload) matched (unqueued matched)
      rw [State.takeReply_matched (s := (s.withFree (s.returnReserved k).eventPool.free).endExchange) matched]
      exact ⟨lands, fun _ => done, fun no => absurd matched no⟩
    · obtain ⟨lands, stray⟩ := replyStray_takeStray s x tag (s.returnReserved k).eventPool.free
      rw [State.takeReply_stray (s := (s.withFree (s.returnReserved k).eventPool.free).endExchange) matched]
      exact ⟨lands, fun yes => absurd yes matched, fun _ => stray⟩
  · have matched : ReplyMatches s x tag := ⟨station, .inr cancelling⟩
    have landed : RecordTouched (s.withFree s.eventPool.free) tag (s.slot tag).landed _ := recordTouched_landed s tag
    obtain ⟨lands, done⟩ := landed.replyMatched (octet := octet) (payload := payload) matched (unqueued matched)
    have late : (s.slot tag).repliedStatus = .late := by simp [Slot.repliedStatus, cancelling]
    rw [late] at lands done
    exact ⟨_, _, State.settle_cancel kind, by simp [kind], lands, fun _ => done, fun no => absurd matched no⟩

/-! ## What a REPLY books (R80, R82) -/

theorem Station.booked_answer (holdoff : Nat) (kind : ExchangeKind) (e : Station) {ans : Answer}
    (h : ans ≠ .refuse busyReason) :
    e.booked holdoff kind (.answer ans) =
      { e with
        state := if e.state = .unknown then .active else e.state
        noAnswer := 0
        ack := nextAck kind e.ack ans } :=
  if_neg h

theorem Station.booked_reply (holdoff : Nat) (kind : ExchangeKind) (e : Station) (r : Bool) :
    e.booked holdoff kind (.answer (.reply tag r octet payload)) =
      { e with
        state := if e.state = .unknown then .active else e.state
        noAnswer := 0
        ack := .reply tag } :=
  e.booked_answer holdoff kind (by simp)

/-- Settles O48. -/
theorem aReplyIsMatchedOrStray : Obligations.AReplyIsMatchedOrStray := by
  intro s x tag r octet payload decided kind enabled state inFlight queued
  obtain ⟨free, v, settle, members, lands, matchedLands, strayLands⟩ :=
    reply_lands (r := r) (octet := octet) (payload := payload) kind enabled inFlight queued
  have taken : s.settle x (.answer (.reply tag r octet payload)) = v.booked x (.answer (.reply tag r octet payload)) :=
    settle.trans (State.book_eq fun lost => absurd lost (by simp))
  have free_eq : v.eventPool.free = free := by rw [lands.frame]
  have own := (State.booked_station_self (u := v)).trans (Station.booked_reply v.stationTable.holdoff x.kind
    (v.station x.station) r (tag := tag) (octet := octet) (payload := payload))
  have changes : (v.station x.station).state = (s.station x.station).state →
      (v.booked x (.answer (.reply tag r octet payload))).stationTable.changes =
        if (s.station x.station).state = .unknown then s.stationTable.changes ||| BitVec.twoPow 32 x.station.val
        else s.stationTable.changes := fun same => by
    rw [lands.stations.booked_changes, ← same]
    rfl
  refine ⟨_, (exec_outcomeTaken decided state).trans (congrArg _ taken), ?_, ?_, lands.stations.booked, lands.slots, ?_⟩
  · rw [State.booked_frame, lands.frame]
  · intro y
    rw [← members, ← free_eq]
    rfl
  · by_cases matched : ReplyMatches s x tag
    · obtain ⟨record, cancelList, unit, stray, entry⟩ := matchedLands matched
      rw [entry] at own changes
      refine ⟨Eq.mpr (if_pos matched) ⟨?_, ?_, cancelList, unit, stray, own⟩, changes rfl⟩
      · exact record.trans (by rw [State.booked_slot, record])
      · intro k
        rw [State.booked_slot, record]
        exact packPayload_getElem payload k
    · obtain ⟨record, cancelList, unit, stray, entry⟩ := strayLands matched
      rw [entry] at own changes
      exact ⟨Eq.mpr (if_neg matched) ⟨record, cancelList, unit, stray, own⟩, changes rfl⟩

end Sys2Proof.Machine
end

-- ==== The outcome of a POLL (06, 07) ====
section
/-! SUPPORT. The reserved record filed or returned, and what the outcome of a POLL books (R78, R80 to R84, R120, R127 to
R130). -/

namespace Sys2Proof.Machine

variable {s u v : State} {x : Exchange} {o : ExchangeOutcome} {k : PollKind} {r : RecordNo} {e : EventAnswer}

/-! ## The record filed or returned (R120, R127 to R130) -/

/-- The outcome of a POLL files the event in the reserved record (R120, R127). -/
abbrev Filed (s : State) (x : Exchange) (k : PollKind) (o : ExchangeOutcome) (r : RecordNo) (e : EventAnswer) : Prop :=
  (s.station x.station).state ≠ .disabled ∧ k = .any r ∧ o = .answer (.event e) ∧ e.decision.action ≠ .discard

/-- The outcomes of a POLL that are no REPLY and that a run can bring. -/
abbrev ExchangeOutcome.Polled (o : ExchangeOutcome) (k : PollKind) : Prop :=
  o = .noAnswer ∨ o = .checkError ∨ o = .protocolError ∨ o = .echoFault ∨ o = .answer .idle ∨
    ∃ r e, k = .any r ∧ o = .answer (.event e)

theorem Filed.unique {r' : RecordNo} {e' : EventAnswer} (h : Filed s x k o r e) (h' : Filed s x k o r' e') :
    r' = r ∧ e' = e := by
  obtain ⟨-, rfl, rfl, -⟩ := h
  obtain ⟨-, record, event, -⟩ := h'
  exact ⟨(PollKind.any.inj record).symm, (Answer.event.inj (ExchangeOutcome.answer.inj event)).symm⟩

/-- The queue that a decision other than discard names. -/
def Action.queue (action : Action) : EventQueue := if action = .queueA then .a else .b

theorem State.pollEffect_filed (u : State) (filed : Filed s x k o r e) :
    u.pollEffect k x.station o = u.fileEvent r x.station e e.decision.action.queue := by
  obtain ⟨-, rfl, rfl, keep⟩ := filed
  show u.takeEvent (.any r) x.station e = _
  cases action : e.decision.action with
  | queueA => exact State.takeEvent_queueA action
  | queueB => exact State.takeEvent_queueB action
  | discard => exact absurd action keep

theorem State.pollEffect_returned (u : State) (enabled : (s.station x.station).state ≠ .disabled) (polled : o.Polled k)
    (unfiled : ∀ r e, ¬ Filed s x k o r e) : u.pollEffect k x.station o = u.returnReserved k := by
  obtain rfl | rfl | rfl | rfl | rfl | ⟨r, e, rfl, rfl⟩ := polled
  · rfl
  · rfl
  · rfl
  · rfl
  · rfl
  · have discard : e.decision.action = .discard := by
      by_contra keep
      exact unfiled r e ⟨enabled, rfl, rfl, keep⟩
    exact State.takeEvent_discard discard

/-! ## What either effect leaves -/

/-- What the effect of a POLL that brings no REPLY changes of `s`, before the books. -/
structure PollLands (s v : State) : Prop where
  frame : v =
    { s with
      eventPool := v.eventPool, completionUnit := v.completionUnit,
      lineScheduler := { s.lineScheduler with exchange := none } }

theorem PollLands.stationTable (lands : PollLands s v) : v.stationTable = s.stationTable :=
  (congrArg State.stationTable lands.frame).trans rfl

theorem pollLands_returnReserved (s : State) (k : PollKind) : PollLands s (s.endExchange.returnReserved k) :=
  ⟨by cases k <;> rfl⟩

theorem pollLands_fileEvent (s : State) (r : RecordNo) (a : Address) (e : EventAnswer) (q : EventQueue) :
    PollLands s (s.endExchange.fileEvent r a e q) := by
  refine ⟨?_⟩
  unfold State.fileEvent
  dsimp only
  split <;> rfl

/-- The reserved record returned unwritten (R129, R130). -/
theorem returnReserved_leaves (s : State) (k : PollKind) :
    (s.endExchange.returnReserved k).eventPool =
        { s.eventPool with free := (s.endExchange.returnReserved k).eventPool.free } ∧
      (∀ y, y ∈ (s.endExchange.returnReserved k).eventPool.free ↔ y ∈ s.eventPool.free ∨ k = .any y) ∧
      (s.endExchange.returnReserved k).completionUnit = s.completionUnit := by
  refine ⟨?_, fun y => s.endExchange.mem_returnReserved k y, ?_⟩
  · cases k <;> rfl
  · cases k <;> rfl

theorem EventAnswer.record_eq (e : EventAnswer) (a : Address) (q : EventQueue) :
    e.record a q =
      { station := a, relayed := e.relay.isSome, repeatFlag := e.repeatFlag, queue := q, alert := e.decision.alert,
        chain := e.decision.chain, payloadLength := e.payload.length,
        origin := match e.relay with | some (origin, _) => origin | none => 0,
        hopCount := match e.relay with | some (_, hop) => hop.toNat | none => 0,
        arrivalTime := e.arrival, payload := packPayload e.payload } := by
  unfold EventAnswer.record
  cases e.relay <;> rfl

theorem EventPool.records_setQueue (q : EventQueue) (l : List RecordNo) (p : EventPool) :
    (p.setQueue q l).records = p.records := by
  cases q <;> rfl

theorem EventPool.free_setQueue (q : EventQueue) (l : List RecordNo) (p : EventPool) :
    (p.setQueue q l).free = p.free := by
  cases q <;> rfl

section

variable (u : State) (r : RecordNo) (a : Address) (e : EventAnswer) (q : EventQueue)

theorem State.fileEvent_record_self : (u.fileEvent r a e q).eventPool.records[r] = e.record a q := by
  rw [u.fileEvent_eventPool, EventPool.records_setQueue]
  exact Vector.getElem_set_self _

theorem State.fileEvent_record_ne {r' : RecordNo} (h : r' ≠ r) :
    (u.fileEvent r a e q).eventPool.records[r'] = u.eventPool.records[r'] := by
  rw [u.fileEvent_eventPool, EventPool.records_setQueue]
  exact Vector.getElem_set_ne r.isLt r'.isLt fun same => h (Fin.ext same.symm)

theorem State.fileEvent_free : (u.fileEvent r a e q).eventPool.free = u.eventPool.free := by
  rw [u.fileEvent_eventPool, EventPool.free_setQueue]

theorem State.fileEvent_queues (action : Action) (keep : action ≠ .discard) :
    (u.fileEvent r a e action.queue).eventPool.queueA =
        (if action = .queueA then u.eventPool.queueA ++ [r] else u.eventPool.queueA) ∧
      (u.fileEvent r a e action.queue).eventPool.queueB =
        (if action = .queueB then u.eventPool.queueB ++ [r] else u.eventPool.queueB) := by
  rw [u.fileEvent_eventPool]
  cases action with
  | queueA => exact ⟨rfl, rfl⟩
  | queueB => exact ⟨rfl, rfl⟩
  | discard => exact absurd rfl keep

theorem State.fileEvent_completionUnit :
    (u.fileEvent r a e q).completionUnit =
      { u.completionUnit with
        causes := { u.completionUnit.causes with alert := u.completionUnit.causes.alert || e.decision.alert } } := by
  unfold State.fileEvent
  cases e.decision.alert with
  | true => simp [CompletionUnit.latchAlert]
  | false => simp

end

/-- The reserved record filled and at the tail of its queue (R127, R128). -/
theorem fileEvent_leaves {s t : State} {r : RecordNo} {a : Address} {e : EventAnswer}
    (pool : t.eventPool = (s.endExchange.fileEvent r a e e.decision.action.queue).eventPool)
    (unit : t.completionUnit = (s.endExchange.fileEvent r a e e.decision.action.queue).completionUnit)
    (keep : e.decision.action ≠ .discard) :
    (t.eventPool.records[r] =
        { station := a, relayed := e.relay.isSome, repeatFlag := e.repeatFlag,
          queue := if e.decision.action = .queueA then .a else .b, alert := e.decision.alert,
          chain := e.decision.chain, payloadLength := e.payload.length,
          origin := match e.relay with | some (origin, _) => origin | none => 0,
          hopCount := match e.relay with | some (_, hop) => hop.toNat | none => 0,
          arrivalTime := e.arrival, payload := t.eventPool.records[r].payload } ∧
        ∀ i : Fin 32, t.eventPool.records[r].payload[i] =
          e.payload.getD (2 * i.val + 1) 0 ++ e.payload.getD (2 * i.val) 0) ∧
      (∀ r' : RecordNo, r' ≠ r → t.eventPool.records[r'] = s.eventPool.records[r']) ∧
      t.eventPool.free = s.eventPool.free ∧
      t.eventPool.queueA =
        (if e.decision.action = .queueA then s.eventPool.queueA ++ [r] else s.eventPool.queueA) ∧
      t.eventPool.queueB =
        (if e.decision.action = .queueB then s.eventPool.queueB ++ [r] else s.eventPool.queueB) ∧
      t.completionUnit =
        { s.completionUnit with
          causes := { s.completionUnit.causes with alert := s.completionUnit.causes.alert || e.decision.alert } } := by
  obtain ⟨queueA, queueB⟩ := s.endExchange.fileEvent_queues r a e e.decision.action keep
  have record : t.eventPool.records[r] = e.record a e.decision.action.queue := by
    rw [pool, State.fileEvent_record_self]
  refine ⟨⟨?_, fun i => ?_⟩, fun r' h => ?_, ?_, ?_, ?_, ?_⟩
  · rw [record, EventAnswer.record_eq]
    rfl
  · rw [record]
    exact packPayload_getElem e.payload i
  · rw [pool]
    exact s.endExchange.fileEvent_record_ne r a e _ h
  · rw [pool]
    exact s.endExchange.fileEvent_free r a e _
  · rw [pool]
    exact queueA
  · rw [pool]
    exact queueB
  · rw [unit]
    exact s.endExchange.fileEvent_completionUnit r a e _

/-! ## What the outcome of a POLL books (R80 to R84) -/

theorem OnlyStationAndChanges.of_stationTable {a : Address} (table : u.stationTable = s.stationTable) :
    OnlyStationAndChanges a s u :=
  ⟨by rw [table], (OnlyStation.of_stationTable table).2⟩

/-- The books of a POLL's outcome, whose own effect left the Station Table. -/
theorem State.booked_polled (table : u.stationTable = s.stationTable) (polled : o.Polled k)
    (enabled : (s.station x.station).state ≠ .disabled) :
    if (s.station x.station).state = .disabled ∨ o = .echoFault then
      (u.booked x o).station x.station = s.station x.station ∧
        (u.booked x o).stationTable.changes = s.stationTable.changes
    else match (generalizing := false) o with
      | .answer a =>
        (u.booked x o).station x.station =
          { s.station x.station with
            state := if (s.station x.station).state = .unknown then .active else (s.station x.station).state,
            noAnswer := 0, ack := if a = .idle then .noAck else .event } ∧
        (u.booked x o).stationTable.changes =
          if (s.station x.station).state = .unknown then
            s.stationTable.changes ||| BitVec.twoPow 32 x.station.val
          else s.stationTable.changes
      | _ =>
        (u.booked x o).station x.station =
          { s.station x.station with noAnswer := (s.station x.station).noAnswer + 1 } ∧
        (u.booked x o).stationTable.changes = s.stationTable.changes := by
  have entry : u.station x.station = s.station x.station := by rw [State.station, table, State.station]
  have own : (u.booked x o).station x.station = (s.station x.station).booked s.stationTable.holdoff x.kind o := by
    rw [State.booked_station_self, entry, table]
  have changes : (u.booked x o).stationTable.changes =
      bookedChanges x.station (s.station x.station) s.stationTable.changes o := by
    rw [State.booked_frame, entry, table]
  obtain rfl | rfl | rfl | rfl | rfl | ⟨r, e, -, rfl⟩ := polled
  · exact Eq.mpr (if_neg (by simp [enabled])) ⟨own, changes⟩
  · exact Eq.mpr (if_neg (by simp [enabled])) ⟨own, changes⟩
  · exact Eq.mpr (if_neg (by simp [enabled])) ⟨own, changes⟩
  · exact Eq.mpr (if_pos (.inr rfl)) ⟨own, changes⟩
  · exact Eq.mpr (if_neg (by simp [enabled])) ⟨own.trans (Station.booked_answer _ _ _ (by simp)), changes⟩
  · exact Eq.mpr (if_neg (by simp [enabled])) ⟨own.trans (Station.booked_answer _ _ _ (by simp)), changes⟩

/-- Settles O49. -/
theorem aPollsOutcomeIsTaken : Obligations.APollsOutcomeIsTaken := by
  intro s x k ack o decided kind state outcome below
  by_cases disabled : (s.station x.station).state = .disabled
  · have lands := pollLands_returnReserved s k
    refine ⟨_, (exec_outcomeTaken decided state).trans (congrArg _ (State.settle_poll_disabled kind disabled)), ?_,
      .of_stationTable lands.stationTable,
      ⟨fun r e filed => absurd disabled filed.1, fun _ => returnReserved_leaves s k⟩,
      Eq.mpr (if_pos (.inl disabled)) ⟨?_, congrArg StationTable.changes lands.stationTable⟩⟩
    · cases k <;> rfl
    · exact s.endExchange.returnReserved_station k x.station
  · have polled : o.Polled k := by
      obtain h | h | h | h | h | h | h := outcome
      · exact .inl h
      · exact .inr (.inl h)
      · exact .inr (.inr (.inl h))
      · exact .inr (.inr (.inr (.inl h)))
      · exact .inr (.inr (.inr (.inr (.inl h))))
      · exact .inr (.inr (.inr (.inr (.inr h))))
      · exact absurd h disabled
    have settle := State.settle_poll (o := o) kind disabled
    have books {v : State} (effect : s.endExchange.pollEffect k x.station o = v) (lands : PollLands s v) :
        exec .outcomeTaken s = .next (v.booked x o) := by
      have keeps : KeepsStation v x o := by
        unfold KeepsStation State.station
        rw [lands.stationTable]
        exact fun lost => below lost disabled
      exact (exec_outcomeTaken decided state).trans
        (congrArg _ (settle.trans ((congrArg (State.book · x o) effect).trans (State.book_eq keeps))))
    have station {v : State} (lands : PollLands s v) := State.booked_polled (x := x) lands.stationTable polled disabled
    have frame {v : State} (lands : PollLands s v) : v.booked x o =
        { s with
          stationTable := (v.booked x o).stationTable, eventPool := (v.booked x o).eventPool,
          completionUnit := (v.booked x o).completionUnit,
          lineScheduler := { s.lineScheduler with exchange := none } } := by
      rw [State.booked_frame, lands.frame]
    by_cases filed : ∃ r e, Filed s x k o r e
    · obtain ⟨r, e, filed⟩ := filed
      have lands := pollLands_fileEvent s r x.station e e.decision.action.queue
      refine ⟨_, books (State.pollEffect_filed s.endExchange filed) lands, frame lands,
        (OnlyStation.of_stationTable lands.stationTable).booked,
        ⟨fun r' e' filed' => ?_, fun no => absurd filed (no r e)⟩, ?_⟩
      · obtain ⟨rfl, rfl⟩ := filed.unique filed'
        obtain ⟨-, -, -, keep⟩ := filed
        exact fileEvent_leaves rfl rfl keep
      · exact station lands
    · have unfiled : ∀ r e, ¬ Filed s x k o r e := fun r e h => filed ⟨r, e, h⟩
      have lands := pollLands_returnReserved s k
      refine ⟨_, books (State.pollEffect_returned s.endExchange disabled polled unfiled) lands, frame lands,
        (OnlyStation.of_stationTable lands.stationTable).booked,
        ⟨fun r e h => absurd h (unfiled r e), fun _ => returnReserved_leaves s k⟩, ?_⟩
      exact station lands

end Sys2Proof.Machine
end

-- ==== The loss of a station by an outcome (03, 04) ====
section
/-! SUPPORT. A lost answer's effect with the no-answer limit set aside, and what the move to OFFLINE leaves (R30, R42, R66,
R83, R85, R105). -/

namespace Sys2Proof.Machine

variable {s u w : State} {x : Exchange} {o : ExchangeOutcome} {n : SlotNo} {a : Address}

/-! ## The limit set aside -/

/-- The state with another no-answer limit (R84). -/
def State.withLimit (s : State) (limit : Nat) : State :=
  { s with stationTable := { s.stationTable with noAnswerLimit := limit } }

/-- What the exchange's own effect keeps of the station, before the books of a lost answer. -/
structure KeepsCount (s : State) (a : Address) (u : State) : Prop where
  limit : u.stationTable.noAnswerLimit = s.stationTable.noAnswerLimit
  changes : u.stationTable.changes = s.stationTable.changes
  count : (u.station a).noAnswer = (s.station a).noAnswer

theorem KeepsCount.of_stationTable (table : u.stationTable = s.stationTable) : KeepsCount s a u :=
  ⟨by rw [table], by rw [table], by rw [State.station, table, State.station]⟩

theorem State.completeSlot_limits (u : State) (n : SlotNo) (status : Status) (octet : Octet) (payload : List Octet) :
    (u.completeSlot n status octet payload).stationTable.noAnswerLimit = u.stationTable.noAnswerLimit ∧
      (u.completeSlot n status octet payload).stationTable.changes = u.stationTable.changes := ⟨rfl, rfl⟩

theorem KeepsCount.completeSlot (table : u.stationTable = s.stationTable) (n : SlotNo) (status : Status) (octet : Octet)
    (payload : List Octet) : KeepsCount s a (u.completeSlot n status octet payload) := by
  have kept : (u.station a).noAnswer = (s.station a).noAnswer := by rw [State.station, table, State.station]
  refine ⟨?_, ?_, ?_⟩
  · exact (u.completeSlot_limits n status octet payload).1.trans (congrArg StationTable.noAnswerLimit table)
  · exact (u.completeSlot_limits n status octet payload).2.trans (congrArg StationTable.changes table)
  · rw [u.completeSlot_station]
    split
    · exact kept
    · exact kept

/-- A lost answer's own effect does not look at the no-answer limit. -/
theorem settle_lost (lost : o.Lost) (enabled : (s.station x.station).state ≠ .disabled) :
    ∃ u, KeepsCount s x.station u ∧
      ∀ limit, (s.withLimit limit).settle x o = (u.withLimit limit).bookSilence x.station := by
  have books (v : State) : v.book x o = v.bookSilence x.station := by
    obtain rfl | rfl | rfl := lost <;> rfl
  cases kind : x.kind with
  | request n =>
    have failed : o.Failed := by
      obtain h | h | h := lost
      · exact .inl h
      · exact .inr (.inl h)
      · exact .inr (.inr (.inl h))
    have settle (limit : Nat) := State.settle_request (s := s.withLimit limit) (o := o) kind
    by_cases retried : (s.slot n).Retried o
    · refine ⟨(s.endExchange.attempted n o).requeueSlot n, .of_stationTable rfl, fun limit => ?_⟩
      rw [settle, books, State.requestEffect_requeues (s.withLimit limit).endExchange failed retried]
      rfl
    · refine ⟨_, .completeSlot (s := s) (u := (s.endExchange.attempted n o).onDispatch closeHeldPlace) rfl n
        (failedStatus (s.slot n).hostCancel o).1 (failedStatus (s.slot n).hostCancel o).2 [], fun limit => ?_⟩
      rw [settle, books, State.requestEffect_ends (s.withLimit limit).endExchange failed retried]
      rfl
  | cancel n =>
    have settle (limit : Nat) := State.settle_cancel (s := s.withLimit limit) (o := o) kind
    by_cases fewer : (s.slot n).cancelAttempts + 1 < 3
    · refine ⟨((s.endExchange.modifySlot n Slot.landed).modifySlot n Slot.cancelLost).rejoinCancelList n,
        .of_stationTable rfl, fun limit => ?_⟩
      rw [settle, books, State.cancelEffect_lost _ n lost]
      exact congrArg (State.bookSilence · _) (if_pos fewer)
    · refine ⟨_, .completeSlot (s := s) (u := (s.endExchange.modifySlot n Slot.landed).modifySlot n Slot.cancelLost) rfl n
        .abandoned 0 [], fun limit => ?_⟩
      rw [settle, books, State.cancelEffect_lost _ n lost]
      exact congrArg (State.bookSilence · _) (if_neg fewer)
  | poll k ack =>
    have settle (limit : Nat) := State.settle_poll (s := s.withLimit limit) (o := o) kind enabled
    refine ⟨s.endExchange.returnReserved k, .of_stationTable ?_, fun limit => ?_⟩
    · cases k <;> rfl
    · rw [settle, books]
      obtain rfl | rfl | rfl := lost <;> cases k <;> rfl

/-! ## The move to OFFLINE (R30, R42, R85) -/

theorem State.goOffline_frame (w : State) (a : Address) :
    w.goOffline a =
      { w with
        slotTable := (w.goOffline a).slotTable
        stationTable :=
          { w.stationTable with
            entries := (w.goOffline a).stationTable.entries
            changes := w.stationTable.changes ||| BitVec.twoPow 32 a.val }
        dispatchQueue := w.dispatchQueue.filter fun p => ∀ n ∈ w.lostSlots a, p.slot ≠ some n
        cancelList := w.cancelList.filter (· ∉ w.lostSlots a)
        completionUnit := w.completionUnit.join (w.lostSlots a) } := by
  have frame := (w.modifyStation a fun e => { e with state := .offline }).loseSlots_eq a
  rw [State.finishAll_frame] at frame
  rw [w.goOffline_eq, frame]
  rfl

theorem State.goOffline_postCounter (w : State) (a : Address) :
    (w.goOffline a).slotTable.postCounter = w.slotTable.postCounter := by
  have frame := (w.modifyStation a fun e => { e with state := .offline }).loseSlots_eq a
  rw [w.goOffline_eq, frame]
  exact State.finishAll_postCounter _ _ _ _ _

theorem State.lostSlots_eq (w : State) (a : Address) :
    w.lostSlots a =
      (List.finRange 32).filter fun n =>
        (w.slot n).station.toNat = a.val ∧
          ((w.slot n).state = .queued ∨ (w.slot n).state = .waiting ∨ (w.slot n).state = .cancelling) := by
  refine List.filter_congr fun n _ => ?_
  cases state : (w.slot n).state <;> simp [Slot.names, SlotState.held]

theorem State.address_of_mem_lostSlots (h : n ∈ w.lostSlots a) : (w.slot n).address = a :=
  Slot.address_of_station (of_decide_eq_true (w.mem_lostSlots.1 h).1)

/-- The slots whose tags a lost station holds. -/
def State.heldLost (w : State) (a : Address) : List SlotNo :=
  (w.lostSlots a).filter fun n => (w.slot n).state = .waiting ∨ (w.slot n).state = .cancelling

theorem SlotState.held_iff (state : SlotState) : state.held = true ↔ state = .waiting ∨ state = .cancelling := by
  cases state <;> simp [SlotState.held]

theorem State.mem_heldLost :
    n ∈ w.heldLost a ↔ n ∈ w.lostSlots a ∧ (w.slot n).address = a ∧ (w.slot n).state.held = true := by
  simp only [State.heldLost, List.mem_filter, decide_eq_true_eq, SlotState.held_iff]
  exact ⟨fun ⟨lost, held⟩ => ⟨lost, State.address_of_mem_lostSlots lost, held⟩, fun ⟨lost, _, held⟩ => ⟨lost, held⟩⟩

theorem State.goOffline_entry (w : State) (a : Address) :
    (w.goOffline a).station a =
      { w.station a with
        state := .offline, outstanding := (w.station a).outstanding - (w.heldLost a).length, holdRemaining := 0,
        holdDue := false, ack := .noAck, quarantine := ((w.goOffline a).station a).quarantine } := by
  have held : (w.lostSlots a).filter (fun n => (w.slot n).address = a ∧ (w.slot n).state.held = true) = w.heldLost a :=
    List.filter_congr fun n lost => by simp [State.address_of_mem_lostSlots lost, SlotState.held_iff]
  rw [w.goOffline_station_self, w.loseSlots_station a a, held]
  rfl

theorem State.goOffline_quarantine (w : State) (a : Address) (n : SlotNo) :
    ((w.goOffline a).station a).quarantine.getLsbD n.val =
      ((w.station a).quarantine.getLsbD n.val || decide (n ∈ w.heldLost a)) := by
  rw [w.goOffline_station_self]
  exact (w.loseSlots_quarantine a a n).trans (by simp only [State.mem_heldLost])

/-- The loss of one station leaves every other entry. -/
theorem State.goOffline_other {b : Address} (h : b ≠ a) : (w.goOffline a).station b = w.station b := by
  have none : (w.lostSlots a).filter (fun n => (w.slot n).address = b ∧ (w.slot n).state.held = true) = [] :=
    List.filter_eq_nil_iff.2 fun n lost => by simp [State.address_of_mem_lostSlots lost, h.symm]
  have same : ((w.loseSlots a).station b).quarantine = (w.station b).quarantine :=
    BitVec.eq_of_getLsbD_eq fun i hi => by
      have bit := w.loseSlots_quarantine a b ⟨i, hi⟩
      have out : ¬ ((⟨i, hi⟩ : SlotNo) ∈ w.lostSlots a ∧ (w.slot ⟨i, hi⟩).address = b ∧
          (w.slot ⟨i, hi⟩).state.held = true) := fun ⟨lost, address, _⟩ =>
        h (address.symm.trans (State.address_of_mem_lostSlots lost))
      rwa [decide_eq_false out, Bool.or_false] at bit
  rw [State.goOffline_station_ne w a h, w.loseSlots_station a b, none, same]
  rfl

/-- Settles O50. -/
theorem aLostStationsSlotsAreCompleted : Obligations.ALostStationsSlotsAreCompleted := by
  intro s t0 x o limit decided lost state enabled reached below run lostList held
  obtain ⟨u, keeps, settle⟩ := settle_lost lost enabled
  let w := u.modifyStation x.station Station.unanswered
  have beyond : (s.withLimit limit).settle x o = w.withLimit limit := by
    rw [settle]
    exact State.bookSilence_below _ _ (by
      show (u.station x.station).noAnswer + 1 < limit
      rwa [keeps.count])
  have taken : s.settle x o = w.goOffline x.station := by
    refine (settle s.stationTable.noAnswerLimit).trans ?_
    rw [← keeps.limit]
    exact State.bookSilence_lost _ _ (by
      show u.stationTable.noAnswerLimit ≤ (u.station x.station).noAnswer + 1
      rwa [keeps.limit, keeps.count])
  have before : t0 = w.withLimit limit := by
    have run' := exec_outcomeTaken (s := s.withLimit limit) decided state
    rw [beyond] at run'
    exact Host.Outcome.next.inj (run.symm.trans run')
  subst before
  have lost_eq : lostList = w.lostSlots x.station := (w.lostSlots_eq x.station).symm
  have held_eq : held = w.heldLost x.station :=
    congrArg (List.filter fun n => (w.slot n).state = .waiting ∨ (w.slot n).state = .cancelling) lost_eq
  clear_value held lostList
  subst lost_eq held_eq
  have frame := w.goOffline_frame x.station
  refine ⟨_, (exec_outcomeTaken decided state).trans (congrArg _ taken), ?_, w.goOffline_postCounter x.station,
    fun n => ?_, ?_, fun b hb => State.goOffline_other hb, w.goOffline_entry x.station, w.goOffline_quarantine x.station⟩
  · have unit : w.completionUnit.join (w.lostSlots x.station) =
        if w.lostSlots x.station = [] then w.completionUnit else w.completionUnit.joined (w.lostSlots x.station) := by
      split
      · next empty => rw [empty, CompletionUnit.join_nil]
      · next some => exact CompletionUnit.join_eq_joined _ some
    rw [unit] at frame
    rw [frame]
    rfl
  · rw [w.goOffline_slot]
    split
    · exact Slot.finished_nil _ _ _ _
    · rfl
  · rw [frame, ← keeps.changes, ← keeps.limit]
    rfl

end Sys2Proof.Machine
end

-- ==== The outcome taken in STOPPING (08) ====
section
/-! SUPPORT. The effects of an outcome do not look at the line state, so that an outcome taken in STOPPING has the effects it
has in RUNNING (R66, R142). -/

namespace Sys2Proof.Machine

/-- The state with the line in another state. -/
def State.withLine (s : State) (l : LineState) : State := { s with lineEngine := { s.lineEngine with state := l } }

variable (s : State) (l : LineState) (n : SlotNo) (a : Address)

/-- A choice between two changes that do not look at the line state does not either. -/
theorem State.ite_withLine {P : Prop} [Decidable P] {t u t' u' : State} (ht : t' = t.withLine l)
    (hu : u' = u.withLine l) : (if P then t' else u') = (if P then t else u).withLine l := by
  rw [ht, hu]
  exact (apply_ite (State.withLine · l) P t u).symm

/-! ## A REQUEST -/

theorem State.acceptSlot_withLine : (s.withLine l).acceptSlot n = (s.acceptSlot n).withLine l :=
  State.ite_withLine l rfl rfl

theorem State.retrySlot_withLine (status : Status) :
    (s.withLine l).retrySlot n status = (s.retrySlot n status).withLine l :=
  State.ite_withLine l rfl rfl

theorem State.failRequest_withLine (o : ExchangeOutcome) :
    (s.withLine l).failRequest n o = (s.failRequest n o).withLine l := by
  cases o with
  | answer ans =>
    cases ans with
    | refuse reason => exact State.ite_withLine l (s.retrySlot_withLine l n _) rfl
    | accept => exact s.retrySlot_withLine l n _
    | reply tag r octet payload => exact s.retrySlot_withLine l n _
    | event e => exact s.retrySlot_withLine l n _
    | idle => exact s.retrySlot_withLine l n _
    | cancelled => exact s.retrySlot_withLine l n _
  | noAnswer => exact s.retrySlot_withLine l n _
  | checkError => exact s.retrySlot_withLine l n _
  | protocolError => exact s.retrySlot_withLine l n _
  | echoFault => rfl

theorem State.requestEffect_withLine (o : ExchangeOutcome) :
    (s.withLine l).requestEffect n o = (s.requestEffect n o).withLine l := by
  by_cases accept : o = .answer .accept
  · subst accept
    exact (s.modifySlot n Slot.tried).acceptSlot_withLine l n
  · rw [s.requestEffect_not_accept n accept, (s.withLine l).requestEffect_not_accept n accept]
    exact State.ite_withLine l rfl ((s.attempted n o).failRequest_withLine l n o)

/-! ## A CANCEL and a POLL -/

theorem State.cancelUnanswered_withLine : (s.withLine l).cancelUnanswered n = (s.cancelUnanswered n).withLine l :=
  State.ite_withLine l rfl rfl

theorem State.cancelEffect_withLine (o : ExchangeOutcome) :
    (s.withLine l).cancelEffect n o = (s.cancelEffect n o).withLine l := by
  have unanswered := (s.modifySlot n Slot.landed).cancelUnanswered_withLine l n
  cases o with
  | answer ans =>
    cases ans with
    | cancelled => rfl
    | reply tag r octet payload => rfl
    | accept => exact unanswered
    | refuse reason => exact unanswered
    | event e => exact unanswered
    | idle => exact unanswered
  | noAnswer => exact unanswered
  | checkError => exact unanswered
  | protocolError => exact unanswered
  | echoFault => rfl

theorem State.returnReserved_withLine (k : PollKind) :
    (s.withLine l).returnReserved k = (s.returnReserved k).withLine l := by
  cases k <;> rfl

theorem State.takeReply_withLine (tag : SlotNo) (octet : Octet) (payload : List Octet) :
    (s.withLine l).takeReply a tag octet payload = (s.takeReply a tag octet payload).withLine l :=
  State.ite_withLine l rfl (State.ite_withLine l rfl rfl)

theorem State.fileEvent_withLine (r : RecordNo) (e : EventAnswer) (q : EventQueue) :
    (s.withLine l).fileEvent r a e q = (s.fileEvent r a e q).withLine l :=
  State.ite_withLine l rfl rfl

theorem State.takeEvent_withLine (k : PollKind) (e : EventAnswer) :
    (s.withLine l).takeEvent k a e = (s.takeEvent k a e).withLine l := by
  cases k with
  | replyOnly => rfl
  | any r =>
    cases action : e.decision.action with
    | queueA => rw [State.takeEvent_queueA action, State.takeEvent_queueA action, State.fileEvent_withLine]
    | queueB => rw [State.takeEvent_queueB action, State.takeEvent_queueB action, State.fileEvent_withLine]
    | discard => rw [State.takeEvent_discard action, State.takeEvent_discard action, State.returnReserved_withLine]

theorem State.pollEffect_withLine (k : PollKind) (o : ExchangeOutcome) :
    (s.withLine l).pollEffect k a o = (s.pollEffect k a o).withLine l := by
  have returned := s.returnReserved_withLine l k
  cases o with
  | answer ans =>
    cases ans with
    | reply tag r octet payload =>
      exact (congrArg (State.takeReply · a tag octet payload) returned).trans
        ((s.returnReserved k).takeReply_withLine l a tag octet payload)
    | event e => exact s.takeEvent_withLine l a k e
    | accept => exact returned
    | refuse reason => exact returned
    | idle => exact returned
    | cancelled => exact returned
  | noAnswer => exact returned
  | checkError => exact returned
  | protocolError => exact returned
  | echoFault => exact returned

/-! ## The books -/

theorem State.finishAll_withLine (slots : List SlotNo) (status : Status) (octet : Octet) (payload : List Octet) :
    (s.withLine l).finishAll status octet payload slots = (s.finishAll status octet payload slots).withLine l := by
  induction slots generalizing s with
  | nil => rfl
  | cons m slots ih => exact ih (s.finishSlot m status octet payload)

theorem State.loseSlots_withLine : (s.withLine l).loseSlots a = (s.loseSlots a).withLine l :=
  congrArg (State.onCompletion · (CompletionUnit.join (s.lostSlots a)))
    (s.finishAll_withLine l (s.lostSlots a) .stationLost 0 [])

theorem State.goOffline_withLine : (s.withLine l).goOffline a = (s.goOffline a).withLine l := by
  rw [s.goOffline_eq, (s.withLine l).goOffline_eq]
  have lost := (s.modifyStation a fun e => { e with state := .offline }).loseSlots_withLine l a
  exact congrArg (fun t => (t.modifyStation a fun e =>
    { e with holdRemaining := 0, holdDue := false, ack := .noAck }).onStations (StationTable.noteChange a)) lost

theorem State.bookSilence_withLine : (s.withLine l).bookSilence a = (s.bookSilence a).withLine l :=
  State.ite_withLine l ((s.modifyStation a Station.unanswered).goOffline_withLine l a) rfl

theorem State.book_withLine (x : Exchange) (o : ExchangeOutcome) :
    (s.withLine l).book x o = (s.book x o).withLine l := by
  cases o with
  | answer ans => exact State.ite_withLine l rfl rfl
  | noAnswer => exact s.bookSilence_withLine l x.station
  | checkError => exact s.bookSilence_withLine l x.station
  | protocolError => exact s.bookSilence_withLine l x.station
  | echoFault => rfl

/-! ## The taking of the outcome (R142) -/

/-- What an outcome does does not depend on the line state. -/
theorem State.settle_withLine (x : Exchange) (o : ExchangeOutcome) :
    (s.withLine l).settle x o = (s.settle x o).withLine l := by
  have ended : (s.withLine l).endExchange = s.endExchange.withLine l := rfl
  cases kind : x.kind with
  | request n =>
    rw [State.settle_request kind, State.settle_request kind, ended, State.requestEffect_withLine, State.book_withLine]
  | cancel n =>
    rw [State.settle_cancel kind, State.settle_cancel kind, ended, State.cancelEffect_withLine, State.book_withLine]
  | poll k ack =>
    by_cases disabled : (s.station x.station).state = .disabled
    · rw [State.settle_poll_disabled kind disabled, State.settle_poll_disabled (s := s.withLine l) kind disabled, ended,
        State.returnReserved_withLine]
    · rw [State.settle_poll kind disabled, State.settle_poll (s := s.withLine l) kind disabled, ended,
        State.pollEffect_withLine, State.book_withLine]

/-- Settles O51. -/
theorem stoppingEndsWithTheOutcome : Obligations.StoppingEndsWithTheOutcome := by
  intro s
  refine ⟨fun x o t decided stopping run => ?_, fun undecided =>
    congrArg Host.Outcome.next (s.takeOutcome_of_not_decided undecided)⟩
  have running := exec_outcomeTaken (s := s.withLine .running) decided LineState.noConfusion
  have same : t = (s.settle x o).withLine .running :=
    (Host.Outcome.next.inj (run.symm.trans running)).trans (s.settle_withLine .running x o)
  subst same
  exact congrArg Host.Outcome.next ((s.takeOutcome_decided decided).trans (if_pos stopping))

end Sys2Proof.Machine
end
